-- ==== Sys2Proof/Word.lean ====
section
/-! DEFINITION. The two word types of the block: every datum is 8 bits (41_alu.md R157) and every CPU address 16 bits
(20_memory.md R50). -/

namespace Sys2Proof

/-- A byte: 00_scope.md R7. -/
abbrev Byte := BitVec 8

/-- A 16-bit address or program counter: 00_scope.md R6, R7. -/
abbrev Word := BitVec 16

end Sys2Proof
end

