-- ==== Sys2Proof/Machine/Bits.lean ====
section
/-! DEFINITION. Byte order, extension and bit helpers: 00_scope.md R7, R8, R9. -/

namespace Sys2Proof

/-- `hi(p) = p[15:8]` (00_scope.md R8). -/
def hi (p : Word) : Byte := p.extractLsb' 8 8

/-- `lo(p) = p[7:0]` (00_scope.md R8). -/
def lo (p : Word) : Byte := p.extractLsb' 0 8

/-- The 16-bit value with the given high and low byte: `h << 8 | l` (20_memory.md R52). -/
def word (h l : Byte) : Word := h ++ l

/-- `zext_16(b)` (00_scope.md R9). -/
def zext16 (b : Byte) : Word := b.zeroExtend 16

/-- `sext_16(b)` modulo 65536 (00_scope.md R9): used for branch displacements only. -/
def sext16 (b : Byte) : Word := b.signExtend 16

end Sys2Proof
end

