-- ==== Sys2Proof/Config.lean ====
section
/-! DEFINITION. What an implementation fixes, and the free values. The launch parameters of 00_scope.md R6 stand in State (as
`cfg`, or as arguments of `State.powerOn`), so that a claim over all states is a claim over all their values; here are their
types and the values `State.reset` takes. -/

namespace Sys2Proof

/-- The free values: the byte the hardware gives where the spec says "unspecified" (49_ppu_vt.md R302, R303;
70_reset_and_hazards.md R352). It has no body: nothing can be proved of its value. Its argument is the number of values drawn
before (`State.drawn`). Log 3. -/
opaque Config.freeByte : Nat → Byte

/-- What a byte of memory that nothing has written reads as. DESIGN CHOICE, unsafe: the spec gives no initial content
(20_memory.md R67). Log 2. -/
def Config.unlistedByte : Byte := 0x00

/-- `CPU_INIT`: the registers the power-on function stores, a launch parameter (70_reset_and_hazards.md R350). `ps` is the packed
status, of which bit 5 is not state (10_state.md R31). -/
structure CpuInit where
  a : Byte
  x : Byte
  y : Byte
  s : Byte
  pc : Word
  ps : Byte
  deriving DecidableEq, Repr

/-- The `CPU_INIT` of `State.reset`. DESIGN CHOICE, unsafe: the spec gives none of these values (10_state.md R41) and no
statement rests on them. Log 1. -/
def Config.cpuInit : CpuInit :=
  { a := 0x00, x := 0x00, y := 0x00, s := 0x00, pc := 0x0000, ps := 0x20 }

/-- The launch parameters that are configuration, not state that an operation writes (10_state.md R40). -/
structure Params where
  /-- `PPUCTRL_WRITES_T_NT`: a `$2000` write copies bits 1:0 into `t[11:10]` (49_ppu_vt.md R291). Log 9. -/
  ppuctrlWritesTNt : Bool
  /-- The address map that `NT_MIRROR` induces on the PPU space below the palette, as (address, backing location) pairs; an
  address that is not listed is its own backing location (20_memory.md R58). The spec leaves the map open. Log 8. -/
  ntMap : List (Nat × Nat)
  deriving DecidableEq, Repr

/-- The launch parameters of `State.reset`: `PPUCTRL_WRITES_T_NT` at its default false (00_scope.md R6), and the empty address map
(DESIGN CHOICE, unsafe). Log 8, log 9. -/
def Config.params : Params := { ppuctrlWritesTNt := false, ntMap := [] }

end Sys2Proof
end

