-- ==== Sys2Proof/Turn.lean ====
section
/-! DEFINITION. The calls the outside agents make (00_scope.md R5): what they may do between two CPU steps. -/

namespace Sys2Proof

/-- The four interrupt types (60_exceptions.md R321). -/
inductive IntType where
  | brk
  | irq
  | reset
  | nmi
  deriving DecidableEq, Repr

/-- One turn of one agent (00_scope.md R5). The order of turns is the order in which the driving loop makes the calls
(60_exceptions.md R328). Log 4. -/
inductive Turn where
  /-- The CPU core: one call of `step()` (30_encoding.md R84). -/
  | cpu
  /-- The interrupt source: `interrupt(type)` (60_exceptions.md R321). -/
  | interrupt (k : IntType)
  /-- The scanline agent: `fineYIncrement` (49_ppu_vt.md R300). -/
  | fineYIncrement
  /-- The scanline agent sets the vblank flag (49_ppu_vt.md R301). -/
  | setVblank
  /-- A read of the port engine at the address `0x2000 + off` (49_ppu_vt.md R290). -/
  | portRead (off : BitVec 13)
  /-- A write of `d` to the port engine at the address `0x2000 + off` (49_ppu_vt.md R290). -/
  | portWrite (off : BitVec 13) (d : Byte)
  /-- The host: `powerResetState(isReset)` of the PPU (70_reset_and_hazards.md R351, R352). -/
  | powerResetState (isReset : Bool)
  /-- The host re-creates the CPU registers by the power-on function (70_reset_and_hazards.md R350, R353). -/
  | cpuPowerOn (init : CpuInit)
  deriving DecidableEq, Repr

end Sys2Proof
end

