-- ==== Sys2Proof/Operand.lean ====
section
/-! DEFINITION. The operands of an instruction, by the operand kind of the addressing-mode resolver (40_addressing.md R110):
MEMORY, IMMEDIATE, ACCUMULATOR and TARGET. Kind NONE (IMPLIED) has no operand, and RELATIVE is a displacement byte. -/

namespace Sys2Proof

/-- The eight modes of kind MEMORY (40_addressing.md R114 to R119, R121, R122), with their operand bytes; the two operand bytes of
a 16-bit address stand as one word. -/
inductive MemMode where
  | zeroPage (b1 : Byte)
  | zeroPageX (b1 : Byte)
  | zeroPageY (b1 : Byte)
  | absolute (addr : Word)
  | absoluteX (base : Word)
  | absoluteY (base : Word)
  | zpXIndirect (b1 : Byte)
  | zpIndirectY (b1 : Byte)
  deriving DecidableEq, Repr

/-- An operand that is only read: IMMEDIATE (40_addressing.md R113) or a byte of memory. -/
inductive Source where
  | immediate (b1 : Byte)
  | memory (m : MemMode)
  deriving DecidableEq, Repr

/-- An operand that is read and written back: ACCUMULATOR (40_addressing.md R112) or a byte of memory. -/
inductive Place where
  | accumulator
  | memory (m : MemMode)
  deriving DecidableEq, Repr

/-- The target of JMP: ABSOLUTE (40_addressing.md R117) or ABSOLUTE_INDIRECT (R120). -/
inductive Target where
  | absolute (addr : Word)
  | indirect (ptr : Word)
  deriving DecidableEq, Repr

/-- The thirteen addressing modes (30_encoding.md R83; 40_addressing.md R111 to R123). -/
inductive Mode where
  | implied
  | accumulator
  | immediate
  | zeroPage
  | zeroPageX
  | zeroPageY
  | absolute
  | absoluteX
  | absoluteY
  | absoluteIndirect
  | zpXIndirect
  | zpIndirectY
  | relative
  deriving DecidableEq, Repr

/-- The addressing mode of a memory operand. -/
def MemMode.mode : MemMode → Mode
  | .zeroPage _ => .zeroPage
  | .zeroPageX _ => .zeroPageX
  | .zeroPageY _ => .zeroPageY
  | .absolute _ => .absolute
  | .absoluteX _ => .absoluteX
  | .absoluteY _ => .absoluteY
  | .zpXIndirect _ => .zpXIndirect
  | .zpIndirectY _ => .zpIndirectY

/-- The addressing mode of an operand that is only read. -/
def Source.mode : Source → Mode
  | .immediate _ => .immediate
  | .memory m => m.mode

/-- The addressing mode of an operand that is read and written back. -/
def Place.mode : Place → Mode
  | .accumulator => .accumulator
  | .memory m => m.mode

/-- The addressing mode of a jump target. -/
def Target.mode : Target → Mode
  | .absolute _ => .absolute
  | .indirect _ => .absoluteIndirect

end Sys2Proof
end

