-- ==== Sys2Proof/Syntax.lean ====
section
/-! DEFINITION. The instructions: one constructor for every mnemonic of spec/opcode_table.json (174 mnemonics over 269 rows; the
rows of one mnemonic differ in the addressing mode, which is the operand's). -/

namespace Sys2Proof

/-- Every operation of the block. The 56 official instructions (30_encoding.md R91), the 105 undefined opcodes (R92), the port
operations and `fineYIncrement` (49_ppu_vt.md R291 to R300), and the interrupt requests (60_exceptions.md R324). -/
inductive Instr where
  -- Logic instructions and BIT: 42_logic_bit.md.
  | ora (o : Source)
  | and (o : Source)
  | eor (o : Source)
  | bit (m : MemMode)
  -- Shift and rotate instructions: 43_shift_rotate.md.
  | asl (o : Place)
  | lsr (o : Place)
  | rol (o : Place)
  | ror (o : Place)
  -- Arithmetic and compare instructions: 44_arithmetic_compare.md.
  | adc (o : Source)
  | sbc (o : Source)
  | cmp (o : Source)
  | cpx (o : Source)
  | cpy (o : Source)
  -- Loads, stores, transfers, increments and decrements: 45_load_store_transfer_incdec.md.
  | lda (o : Source)
  | ldx (o : Source)
  | ldy (o : Source)
  | sta (m : MemMode)
  | stx (m : MemMode)
  | sty (m : MemMode)
  | tax
  | tay
  | txa
  | tya
  | tsx
  | txs
  | inc (m : MemMode)
  | dec (m : MemMode)
  | inx
  | iny
  | dex
  | dey
  -- Branches, with their displacement byte: 46_branch.md.
  | bcc (b1 : Byte)
  | bcs (b1 : Byte)
  | beq (b1 : Byte)
  | bmi (b1 : Byte)
  | bne (b1 : Byte)
  | bpl (b1 : Byte)
  | bvc (b1 : Byte)
  | bvs (b1 : Byte)
  -- Stack instructions, flag instructions and NOP: 47_stack_flags.md.
  | pha
  | php
  | pla
  | plp
  | clc
  | sec
  | cli
  | sei
  | clv
  | cld
  | sed
  | nop
  -- Control transfer: 48_control.md.
  | jmp (t : Target)
  | jsr (addr : Word)
  | rts
  | rti
  | brk
  -- The port operations and the scroll computation, with the byte written: 49_ppu_vt.md.
  | ppuctrlWrite (d : Byte)
  | ppustatusRead
  | ppuscrollWriteFirst (d : Byte)
  | ppuscrollWriteSecond (d : Byte)
  | ppuaddrWriteFirst (d : Byte)
  | ppuaddrWriteSecond (d : Byte)
  | ppudataRead
  | ppudataWrite (d : Byte)
  | fineYIncrement
  -- Interrupt requests: 60_exceptions.md.
  | interruptBrk
  | interruptIrq
  | interruptReset
  | interruptNmi
  -- The 105 undefined opcodes, one-byte no-ops: 30_encoding.md R92.
  | undefined02
  | undefined03
  | undefined04
  | undefined07
  | undefined0B
  | undefined0C
  | undefined0F
  | undefined12
  | undefined13
  | undefined14
  | undefined17
  | undefined1A
  | undefined1B
  | undefined1C
  | undefined1F
  | undefined22
  | undefined23
  | undefined27
  | undefined2B
  | undefined2F
  | undefined32
  | undefined33
  | undefined34
  | undefined37
  | undefined3A
  | undefined3B
  | undefined3C
  | undefined3F
  | undefined42
  | undefined43
  | undefined44
  | undefined47
  | undefined4B
  | undefined4F
  | undefined52
  | undefined53
  | undefined54
  | undefined57
  | undefined5A
  | undefined5B
  | undefined5C
  | undefined5F
  | undefined62
  | undefined63
  | undefined64
  | undefined67
  | undefined6B
  | undefined6F
  | undefined72
  | undefined73
  | undefined74
  | undefined77
  | undefined7A
  | undefined7B
  | undefined7C
  | undefined7F
  | undefined80
  | undefined82
  | undefined83
  | undefined87
  | undefined89
  | undefined8B
  | undefined8F
  | undefined92
  | undefined93
  | undefined97
  | undefined9B
  | undefined9C
  | undefined9E
  | undefined9F
  | undefinedA3
  | undefinedA7
  | undefinedAB
  | undefinedAF
  | undefinedB2
  | undefinedB3
  | undefinedB7
  | undefinedBB
  | undefinedBF
  | undefinedC2
  | undefinedC3
  | undefinedC7
  | undefinedCB
  | undefinedCF
  | undefinedD2
  | undefinedD3
  | undefinedD4
  | undefinedD7
  | undefinedDA
  | undefinedDB
  | undefinedDC
  | undefinedDF
  | undefinedE2
  | undefinedE3
  | undefinedE7
  | undefinedEB
  | undefinedEF
  | undefinedF2
  | undefinedF3
  | undefinedF4
  | undefinedF7
  | undefinedFA
  | undefinedFB
  | undefinedFC
  | undefinedFF
  deriving DecidableEq, Repr

end Sys2Proof
end

