-- ==== Sys2Proof/WellFormed.lean ====
section
/-! DEFINITION. Which instruction may appear with which mode (30_encoding.md R91; 40_addressing.md R125). Every operand byte has
256 legal values in every mode (30_encoding.md R93), so the mode is the only check. -/

namespace Sys2Proof

/-- ADC, AND, CMP, EOR, LDA, ORA, SBC. -/
def aluModes : List Mode :=
  [.immediate, .zeroPage, .zeroPageX, .absolute, .absoluteX, .absoluteY, .zpXIndirect, .zpIndirectY]

/-- ASL, LSR, ROL, ROR. -/
def shiftModes : List Mode := [.accumulator, .zeroPage, .zeroPageX, .absolute, .absoluteX]

/-- INC, DEC: no ACCUMULATOR form (45_load_store_transfer_incdec.md R212). -/
def incDecModes : List Mode := [.zeroPage, .zeroPageX, .absolute, .absoluteX]

/-- STA: no IMMEDIATE form (45_load_store_transfer_incdec.md R203). -/
def staModes : List Mode :=
  [.zeroPage, .zeroPageX, .absolute, .absoluteX, .absoluteY, .zpXIndirect, .zpIndirectY]

/-- The instruction has an opcode byte in its mode, or needs none: an operation that is called (49_ppu_vt.md, 60_exceptions.md)
and the undefined opcodes have one form each. -/
def Instr.wf : Instr → Bool
  | .ora o => aluModes.contains o.mode
  | .and o => aluModes.contains o.mode
  | .eor o => aluModes.contains o.mode
  | .bit m => [Mode.zeroPage, .absolute].contains m.mode
  | .asl o => shiftModes.contains o.mode
  | .lsr o => shiftModes.contains o.mode
  | .rol o => shiftModes.contains o.mode
  | .ror o => shiftModes.contains o.mode
  | .adc o => aluModes.contains o.mode
  | .sbc o => aluModes.contains o.mode
  | .cmp o => aluModes.contains o.mode
  | .cpx o => [Mode.immediate, .zeroPage, .absolute].contains o.mode
  | .cpy o => [Mode.immediate, .zeroPage, .absolute].contains o.mode
  | .lda o => aluModes.contains o.mode
  | .ldx o => [Mode.immediate, .zeroPage, .zeroPageY, .absolute, .absoluteY].contains o.mode
  | .ldy o => [Mode.immediate, .zeroPage, .zeroPageX, .absolute, .absoluteX].contains o.mode
  | .sta m => staModes.contains m.mode
  | .stx m => [Mode.zeroPage, .zeroPageY, .absolute].contains m.mode
  | .sty m => [Mode.zeroPage, .zeroPageX, .absolute].contains m.mode
  | .inc m => incDecModes.contains m.mode
  | .dec m => incDecModes.contains m.mode
  | .tax | .tay | .txa | .tya | .tsx | .txs | .inx | .iny | .dex | .dey | .bcc _ | .bcs _ | .beq _ | .bmi _ | .bne _
  | .bpl _ | .bvc _ | .bvs _ | .pha | .php | .pla | .plp | .clc | .sec | .cli | .sei | .clv | .cld | .sed | .nop
  | .jmp _ | .jsr _ | .rts | .rti | .brk | .ppuctrlWrite _ | .ppustatusRead | .ppuscrollWriteFirst _
  | .ppuscrollWriteSecond _ | .ppuaddrWriteFirst _ | .ppuaddrWriteSecond _ | .ppudataRead | .ppudataWrite _
  | .fineYIncrement | .interruptBrk | .interruptIrq | .interruptReset | .interruptNmi | .undefined02 | .undefined03
  | .undefined04 | .undefined07 | .undefined0B | .undefined0C | .undefined0F | .undefined12 | .undefined13
  | .undefined14 | .undefined17 | .undefined1A | .undefined1B | .undefined1C | .undefined1F | .undefined22
  | .undefined23 | .undefined27 | .undefined2B | .undefined2F | .undefined32 | .undefined33 | .undefined34
  | .undefined37 | .undefined3A | .undefined3B | .undefined3C | .undefined3F | .undefined42 | .undefined43
  | .undefined44 | .undefined47 | .undefined4B | .undefined4F | .undefined52 | .undefined53 | .undefined54
  | .undefined57 | .undefined5A | .undefined5B | .undefined5C | .undefined5F | .undefined62 | .undefined63
  | .undefined64 | .undefined67 | .undefined6B | .undefined6F | .undefined72 | .undefined73 | .undefined74
  | .undefined77 | .undefined7A | .undefined7B | .undefined7C | .undefined7F | .undefined80 | .undefined82
  | .undefined83 | .undefined87 | .undefined89 | .undefined8B | .undefined8F | .undefined92 | .undefined93
  | .undefined97 | .undefined9B | .undefined9C | .undefined9E | .undefined9F | .undefinedA3 | .undefinedA7
  | .undefinedAB | .undefinedAF | .undefinedB2 | .undefinedB3 | .undefinedB7 | .undefinedBB | .undefinedBF
  | .undefinedC2 | .undefinedC3 | .undefinedC7 | .undefinedCB | .undefinedCF | .undefinedD2 | .undefinedD3
  | .undefinedD4 | .undefinedD7 | .undefinedDA | .undefinedDB | .undefinedDC | .undefinedDF | .undefinedE2
  | .undefinedE3 | .undefinedE7 | .undefinedEB | .undefinedEF | .undefinedF2 | .undefinedF3 | .undefinedF4
  | .undefinedF7 | .undefinedFA | .undefinedFB | .undefinedFC | .undefinedFF => true

end Sys2Proof
end

