-- ==== Sys2Proof/Decode.lean ====
section
/-! DEFINITION. The decoder (from the map by opcode byte, 30_encoding.md R90), the encoder (from the map by mnemonic, R91), and the
decoding of a call (49_ppu_vt.md R290; 60_exceptions.md R321). -/

namespace Sys2Proof

/-- The three formats (30_encoding.md R81). -/
inductive Format where
  | f1
  | f2
  | f3
  deriving DecidableEq, Repr

/-- The operand byte count `nb` (30_encoding.md R81). -/
def Format.nb : Format → Nat
  | .f1 => 0
  | .f2 => 1
  | .f3 => 2

/-- One entry of the decode table (30_encoding.md R83): the format, and the instruction made of the operand bytes `b1` and `b2`
(30_encoding.md R82). -/
structure Entry where
  fmt : Format
  build : Byte → Byte → Instr

/-- IMPLIED, ACCUMULATOR and the undefined opcodes: no operand byte. -/
def Entry.imp (i : Instr) : Entry := ⟨.f1, fun _ _ => i⟩

def Entry.imm (f : Source → Instr) : Entry := ⟨.f2, fun b1 _ => f (.immediate b1)⟩

def Entry.rel (f : Byte → Instr) : Entry := ⟨.f2, fun b1 _ => f b1⟩

def Entry.zp (f : MemMode → Instr) : Entry := ⟨.f2, fun b1 _ => f (.zeroPage b1)⟩

def Entry.zpx (f : MemMode → Instr) : Entry := ⟨.f2, fun b1 _ => f (.zeroPageX b1)⟩

def Entry.zpy (f : MemMode → Instr) : Entry := ⟨.f2, fun b1 _ => f (.zeroPageY b1)⟩

def Entry.izx (f : MemMode → Instr) : Entry := ⟨.f2, fun b1 _ => f (.zpXIndirect b1)⟩

def Entry.izy (f : MemMode → Instr) : Entry := ⟨.f2, fun b1 _ => f (.zpIndirectY b1)⟩

def Entry.abs (f : MemMode → Instr) : Entry := ⟨.f3, fun b1 b2 => f (.absolute (word b2 b1))⟩

def Entry.abx (f : MemMode → Instr) : Entry := ⟨.f3, fun b1 b2 => f (.absoluteX (word b2 b1))⟩

def Entry.aby (f : MemMode → Instr) : Entry := ⟨.f3, fun b1 b2 => f (.absoluteY (word b2 b1))⟩

/-- ABSOLUTE as a target (40_addressing.md R117). -/
def Entry.tgt (f : Target → Instr) : Entry := ⟨.f3, fun b1 b2 => f (.absolute (word b2 b1))⟩

def Entry.tgtw (f : Word → Instr) : Entry := ⟨.f3, fun b1 b2 => f (word b2 b1)⟩

def Entry.ind (f : Target → Instr) : Entry := ⟨.f3, fun b1 b2 => f (.indirect (word b2 b1))⟩

/-- A memory mode of an operand that is only read. -/
def rd (f : Source → Instr) (m : MemMode) : Instr := f (.memory m)

/-- A memory mode of an operand that is read and written back. -/
def md (f : Place → Instr) (m : MemMode) : Instr := f (.memory m)

/-- Opcodes 0x00 to 0x0F. -/
def opcodeRow0 : List Entry :=
  [.imp .brk, .izx (rd .ora), .imp .undefined02, .imp .undefined03,
   .imp .undefined04, .zp (rd .ora), .zp (md .asl), .imp .undefined07,
   .imp .php, .imm .ora, .imp (.asl .accumulator), .imp .undefined0B,
   .imp .undefined0C, .abs (rd .ora), .abs (md .asl), .imp .undefined0F]

/-- Opcodes 0x10 to 0x1F. -/
def opcodeRow1 : List Entry :=
  [.rel .bpl, .izy (rd .ora), .imp .undefined12, .imp .undefined13,
   .imp .undefined14, .zpx (rd .ora), .zpx (md .asl), .imp .undefined17,
   .imp .clc, .aby (rd .ora), .imp .undefined1A, .imp .undefined1B,
   .imp .undefined1C, .abx (rd .ora), .abx (md .asl), .imp .undefined1F]

/-- Opcodes 0x20 to 0x2F. -/
def opcodeRow2 : List Entry :=
  [.tgtw .jsr, .izx (rd .and), .imp .undefined22, .imp .undefined23,
   .zp .bit, .zp (rd .and), .zp (md .rol), .imp .undefined27,
   .imp .plp, .imm .and, .imp (.rol .accumulator), .imp .undefined2B,
   .abs .bit, .abs (rd .and), .abs (md .rol), .imp .undefined2F]

/-- Opcodes 0x30 to 0x3F. -/
def opcodeRow3 : List Entry :=
  [.rel .bmi, .izy (rd .and), .imp .undefined32, .imp .undefined33,
   .imp .undefined34, .zpx (rd .and), .zpx (md .rol), .imp .undefined37,
   .imp .sec, .aby (rd .and), .imp .undefined3A, .imp .undefined3B,
   .imp .undefined3C, .abx (rd .and), .abx (md .rol), .imp .undefined3F]

/-- Opcodes 0x40 to 0x4F. -/
def opcodeRow4 : List Entry :=
  [.imp .rti, .izx (rd .eor), .imp .undefined42, .imp .undefined43,
   .imp .undefined44, .zp (rd .eor), .zp (md .lsr), .imp .undefined47,
   .imp .pha, .imm .eor, .imp (.lsr .accumulator), .imp .undefined4B,
   .tgt .jmp, .abs (rd .eor), .abs (md .lsr), .imp .undefined4F]

/-- Opcodes 0x50 to 0x5F. -/
def opcodeRow5 : List Entry :=
  [.rel .bvc, .izy (rd .eor), .imp .undefined52, .imp .undefined53,
   .imp .undefined54, .zpx (rd .eor), .zpx (md .lsr), .imp .undefined57,
   .imp .cli, .aby (rd .eor), .imp .undefined5A, .imp .undefined5B,
   .imp .undefined5C, .abx (rd .eor), .abx (md .lsr), .imp .undefined5F]

/-- Opcodes 0x60 to 0x6F. -/
def opcodeRow6 : List Entry :=
  [.imp .rts, .izx (rd .adc), .imp .undefined62, .imp .undefined63,
   .imp .undefined64, .zp (rd .adc), .zp (md .ror), .imp .undefined67,
   .imp .pla, .imm .adc, .imp (.ror .accumulator), .imp .undefined6B,
   .ind .jmp, .abs (rd .adc), .abs (md .ror), .imp .undefined6F]

/-- Opcodes 0x70 to 0x7F. -/
def opcodeRow7 : List Entry :=
  [.rel .bvs, .izy (rd .adc), .imp .undefined72, .imp .undefined73,
   .imp .undefined74, .zpx (rd .adc), .zpx (md .ror), .imp .undefined77,
   .imp .sei, .aby (rd .adc), .imp .undefined7A, .imp .undefined7B,
   .imp .undefined7C, .abx (rd .adc), .abx (md .ror), .imp .undefined7F]

/-- Opcodes 0x80 to 0x8F. -/
def opcodeRow8 : List Entry :=
  [.imp .undefined80, .izx .sta, .imp .undefined82, .imp .undefined83,
   .zp .sty, .zp .sta, .zp .stx, .imp .undefined87,
   .imp .dey, .imp .undefined89, .imp .txa, .imp .undefined8B,
   .abs .sty, .abs .sta, .abs .stx, .imp .undefined8F]

/-- Opcodes 0x90 to 0x9F. -/
def opcodeRow9 : List Entry :=
  [.rel .bcc, .izy .sta, .imp .undefined92, .imp .undefined93,
   .zpx .sty, .zpx .sta, .zpy .stx, .imp .undefined97,
   .imp .tya, .aby .sta, .imp .txs, .imp .undefined9B,
   .imp .undefined9C, .abx .sta, .imp .undefined9E, .imp .undefined9F]

/-- Opcodes 0xA0 to 0xAF. -/
def opcodeRowA : List Entry :=
  [.imm .ldy, .izx (rd .lda), .imm .ldx, .imp .undefinedA3,
   .zp (rd .ldy), .zp (rd .lda), .zp (rd .ldx), .imp .undefinedA7,
   .imp .tay, .imm .lda, .imp .tax, .imp .undefinedAB,
   .abs (rd .ldy), .abs (rd .lda), .abs (rd .ldx), .imp .undefinedAF]

/-- Opcodes 0xB0 to 0xBF. -/
def opcodeRowB : List Entry :=
  [.rel .bcs, .izy (rd .lda), .imp .undefinedB2, .imp .undefinedB3,
   .zpx (rd .ldy), .zpx (rd .lda), .zpy (rd .ldx), .imp .undefinedB7,
   .imp .clv, .aby (rd .lda), .imp .tsx, .imp .undefinedBB,
   .abx (rd .ldy), .abx (rd .lda), .aby (rd .ldx), .imp .undefinedBF]

/-- Opcodes 0xC0 to 0xCF. -/
def opcodeRowC : List Entry :=
  [.imm .cpy, .izx (rd .cmp), .imp .undefinedC2, .imp .undefinedC3,
   .zp (rd .cpy), .zp (rd .cmp), .zp .dec, .imp .undefinedC7,
   .imp .iny, .imm .cmp, .imp .dex, .imp .undefinedCB,
   .abs (rd .cpy), .abs (rd .cmp), .abs .dec, .imp .undefinedCF]

/-- Opcodes 0xD0 to 0xDF. -/
def opcodeRowD : List Entry :=
  [.rel .bne, .izy (rd .cmp), .imp .undefinedD2, .imp .undefinedD3,
   .imp .undefinedD4, .zpx (rd .cmp), .zpx .dec, .imp .undefinedD7,
   .imp .cld, .aby (rd .cmp), .imp .undefinedDA, .imp .undefinedDB,
   .imp .undefinedDC, .abx (rd .cmp), .abx .dec, .imp .undefinedDF]

/-- Opcodes 0xE0 to 0xEF. -/
def opcodeRowE : List Entry :=
  [.imm .cpx, .izx (rd .sbc), .imp .undefinedE2, .imp .undefinedE3,
   .zp (rd .cpx), .zp (rd .sbc), .zp .inc, .imp .undefinedE7,
   .imp .inx, .imm .sbc, .imp .nop, .imp .undefinedEB,
   .abs (rd .cpx), .abs (rd .sbc), .abs .inc, .imp .undefinedEF]

/-- Opcodes 0xF0 to 0xFF. -/
def opcodeRowF : List Entry :=
  [.rel .beq, .izy (rd .sbc), .imp .undefinedF2, .imp .undefinedF3,
   .imp .undefinedF4, .zpx (rd .sbc), .zpx .inc, .imp .undefinedF7,
   .imp .sed, .aby (rd .sbc), .imp .undefinedFA, .imp .undefinedFB,
   .imp .undefinedFC, .abx (rd .sbc), .abx .inc, .imp .undefinedFF]

/-- The opcode map, row by row as 30_encoding.md R90 prints it: the row is the high nibble, the column the low nibble. -/
def opcodeGrid : List (List Entry) :=
  [opcodeRow0, opcodeRow1, opcodeRow2, opcodeRow3, opcodeRow4, opcodeRow5, opcodeRow6, opcodeRow7,
   opcodeRow8, opcodeRow9, opcodeRowA, opcodeRowB, opcodeRowC, opcodeRowD, opcodeRowE, opcodeRowF]

/-- The decode table as a total function of the opcode byte (30_encoding.md R83). The two default values are never reached: the
grid has 16 rows of 16 (Laws/Decode.lean, `opcodeGrid_full`). -/
def entryOf (opcode : Byte) : Entry :=
  (opcodeGrid.getD (opcode.toNat / 16) []).getD (opcode.toNat % 16) (.imp .nop)

/-- Why a list of bytes is no instruction: only that it ends too early, since every opcode byte and every operand byte is legal
(30_encoding.md R93). -/
inductive DecodeError where
  /-- The list is empty. -/
  | noOpcode
  /-- The list ends before the operand bytes of this opcode. -/
  | operandMissing (opcode : Byte)
  deriving DecidableEq, Repr

/-- The instruction at the head of a list of bytes, with the rest of the list (30_encoding.md R80). BRK's padding byte is not read
(30_encoding.md R94), so it stays in the rest. -/
def decode : List Byte → Except DecodeError (Instr × List Byte)
  | [] => .error .noOpcode
  | op :: rest =>
    match (entryOf op).fmt, rest with
    | .f1, rest => .ok ((entryOf op).build 0 0, rest)
    | .f2, b1 :: rest => .ok ((entryOf op).build b1 0, rest)
    | .f3, b1 :: b2 :: rest => .ok ((entryOf op).build b1 b2, rest)
    | .f2, [] => .error (.operandMissing op)
    | .f3, [] => .error (.operandMissing op)
    | .f3, [_] => .error (.operandMissing op)

/-- The opcode byte of a mode in a row of 30_encoding.md R91, if it has one. -/
def codeOf (row : List (Mode × Byte)) (m : Mode) : Option Byte := row.lookup m

/-- The opcode byte of an instruction, row by row as 30_encoding.md R91 prints it; none for a mode the row leaves empty, and none for
the operations that are called. -/
def Instr.opcode : Instr → Option Byte
  | .ora o => codeOf [(Mode.immediate, 0x09), (.zeroPage, 0x05), (.zeroPageX, 0x15), (.absolute, 0x0D), (.absoluteX, 0x1D), (.absoluteY, 0x19), (.zpXIndirect, 0x01), (.zpIndirectY, 0x11)] o.mode
  | .and o => codeOf [(Mode.immediate, 0x29), (.zeroPage, 0x25), (.zeroPageX, 0x35), (.absolute, 0x2D), (.absoluteX, 0x3D), (.absoluteY, 0x39), (.zpXIndirect, 0x21), (.zpIndirectY, 0x31)] o.mode
  | .eor o => codeOf [(Mode.immediate, 0x49), (.zeroPage, 0x45), (.zeroPageX, 0x55), (.absolute, 0x4D), (.absoluteX, 0x5D), (.absoluteY, 0x59), (.zpXIndirect, 0x41), (.zpIndirectY, 0x51)] o.mode
  | .bit m => codeOf [(Mode.zeroPage, 0x24), (.absolute, 0x2C)] m.mode
  | .asl o => codeOf [(Mode.accumulator, 0x0A), (.zeroPage, 0x06), (.zeroPageX, 0x16), (.absolute, 0x0E), (.absoluteX, 0x1E)] o.mode
  | .lsr o => codeOf [(Mode.accumulator, 0x4A), (.zeroPage, 0x46), (.zeroPageX, 0x56), (.absolute, 0x4E), (.absoluteX, 0x5E)] o.mode
  | .rol o => codeOf [(Mode.accumulator, 0x2A), (.zeroPage, 0x26), (.zeroPageX, 0x36), (.absolute, 0x2E), (.absoluteX, 0x3E)] o.mode
  | .ror o => codeOf [(Mode.accumulator, 0x6A), (.zeroPage, 0x66), (.zeroPageX, 0x76), (.absolute, 0x6E), (.absoluteX, 0x7E)] o.mode
  | .adc o => codeOf [(Mode.immediate, 0x69), (.zeroPage, 0x65), (.zeroPageX, 0x75), (.absolute, 0x6D), (.absoluteX, 0x7D), (.absoluteY, 0x79), (.zpXIndirect, 0x61), (.zpIndirectY, 0x71)] o.mode
  | .sbc o => codeOf [(Mode.immediate, 0xE9), (.zeroPage, 0xE5), (.zeroPageX, 0xF5), (.absolute, 0xED), (.absoluteX, 0xFD), (.absoluteY, 0xF9), (.zpXIndirect, 0xE1), (.zpIndirectY, 0xF1)] o.mode
  | .cmp o => codeOf [(Mode.immediate, 0xC9), (.zeroPage, 0xC5), (.zeroPageX, 0xD5), (.absolute, 0xCD), (.absoluteX, 0xDD), (.absoluteY, 0xD9), (.zpXIndirect, 0xC1), (.zpIndirectY, 0xD1)] o.mode
  | .cpx o => codeOf [(Mode.immediate, 0xE0), (.zeroPage, 0xE4), (.absolute, 0xEC)] o.mode
  | .cpy o => codeOf [(Mode.immediate, 0xC0), (.zeroPage, 0xC4), (.absolute, 0xCC)] o.mode
  | .lda o => codeOf [(Mode.immediate, 0xA9), (.zeroPage, 0xA5), (.zeroPageX, 0xB5), (.absolute, 0xAD), (.absoluteX, 0xBD), (.absoluteY, 0xB9), (.zpXIndirect, 0xA1), (.zpIndirectY, 0xB1)] o.mode
  | .ldx o => codeOf [(Mode.immediate, 0xA2), (.zeroPage, 0xA6), (.zeroPageY, 0xB6), (.absolute, 0xAE), (.absoluteY, 0xBE)] o.mode
  | .ldy o => codeOf [(Mode.immediate, 0xA0), (.zeroPage, 0xA4), (.zeroPageX, 0xB4), (.absolute, 0xAC), (.absoluteX, 0xBC)] o.mode
  | .sta m => codeOf [(Mode.zeroPage, 0x85), (.zeroPageX, 0x95), (.absolute, 0x8D), (.absoluteX, 0x9D), (.absoluteY, 0x99), (.zpXIndirect, 0x81), (.zpIndirectY, 0x91)] m.mode
  | .stx m => codeOf [(Mode.zeroPage, 0x86), (.zeroPageY, 0x96), (.absolute, 0x8E)] m.mode
  | .sty m => codeOf [(Mode.zeroPage, 0x84), (.zeroPageX, 0x94), (.absolute, 0x8C)] m.mode
  | .tax => some 0xAA
  | .tay => some 0xA8
  | .txa => some 0x8A
  | .tya => some 0x98
  | .tsx => some 0xBA
  | .txs => some 0x9A
  | .inc m => codeOf [(Mode.zeroPage, 0xE6), (.zeroPageX, 0xF6), (.absolute, 0xEE), (.absoluteX, 0xFE)] m.mode
  | .dec m => codeOf [(Mode.zeroPage, 0xC6), (.zeroPageX, 0xD6), (.absolute, 0xCE), (.absoluteX, 0xDE)] m.mode
  | .inx => some 0xE8
  | .iny => some 0xC8
  | .dex => some 0xCA
  | .dey => some 0x88
  | .bcc _ => some 0x90
  | .bcs _ => some 0xB0
  | .beq _ => some 0xF0
  | .bmi _ => some 0x30
  | .bne _ => some 0xD0
  | .bpl _ => some 0x10
  | .bvc _ => some 0x50
  | .bvs _ => some 0x70
  | .pha => some 0x48
  | .php => some 0x08
  | .pla => some 0x68
  | .plp => some 0x28
  | .clc => some 0x18
  | .sec => some 0x38
  | .cli => some 0x58
  | .sei => some 0x78
  | .clv => some 0xB8
  | .cld => some 0xD8
  | .sed => some 0xF8
  | .nop => some 0xEA
  | .jmp t => codeOf [(Mode.absolute, 0x4C), (.absoluteIndirect, 0x6C)] t.mode
  | .jsr _ => some 0x20
  | .rts => some 0x60
  | .rti => some 0x40
  | .brk => some 0x00
  | .undefined02 => some 0x02
  | .undefined03 => some 0x03
  | .undefined04 => some 0x04
  | .undefined07 => some 0x07
  | .undefined0B => some 0x0B
  | .undefined0C => some 0x0C
  | .undefined0F => some 0x0F
  | .undefined12 => some 0x12
  | .undefined13 => some 0x13
  | .undefined14 => some 0x14
  | .undefined17 => some 0x17
  | .undefined1A => some 0x1A
  | .undefined1B => some 0x1B
  | .undefined1C => some 0x1C
  | .undefined1F => some 0x1F
  | .undefined22 => some 0x22
  | .undefined23 => some 0x23
  | .undefined27 => some 0x27
  | .undefined2B => some 0x2B
  | .undefined2F => some 0x2F
  | .undefined32 => some 0x32
  | .undefined33 => some 0x33
  | .undefined34 => some 0x34
  | .undefined37 => some 0x37
  | .undefined3A => some 0x3A
  | .undefined3B => some 0x3B
  | .undefined3C => some 0x3C
  | .undefined3F => some 0x3F
  | .undefined42 => some 0x42
  | .undefined43 => some 0x43
  | .undefined44 => some 0x44
  | .undefined47 => some 0x47
  | .undefined4B => some 0x4B
  | .undefined4F => some 0x4F
  | .undefined52 => some 0x52
  | .undefined53 => some 0x53
  | .undefined54 => some 0x54
  | .undefined57 => some 0x57
  | .undefined5A => some 0x5A
  | .undefined5B => some 0x5B
  | .undefined5C => some 0x5C
  | .undefined5F => some 0x5F
  | .undefined62 => some 0x62
  | .undefined63 => some 0x63
  | .undefined64 => some 0x64
  | .undefined67 => some 0x67
  | .undefined6B => some 0x6B
  | .undefined6F => some 0x6F
  | .undefined72 => some 0x72
  | .undefined73 => some 0x73
  | .undefined74 => some 0x74
  | .undefined77 => some 0x77
  | .undefined7A => some 0x7A
  | .undefined7B => some 0x7B
  | .undefined7C => some 0x7C
  | .undefined7F => some 0x7F
  | .undefined80 => some 0x80
  | .undefined82 => some 0x82
  | .undefined83 => some 0x83
  | .undefined87 => some 0x87
  | .undefined89 => some 0x89
  | .undefined8B => some 0x8B
  | .undefined8F => some 0x8F
  | .undefined92 => some 0x92
  | .undefined93 => some 0x93
  | .undefined97 => some 0x97
  | .undefined9B => some 0x9B
  | .undefined9C => some 0x9C
  | .undefined9E => some 0x9E
  | .undefined9F => some 0x9F
  | .undefinedA3 => some 0xA3
  | .undefinedA7 => some 0xA7
  | .undefinedAB => some 0xAB
  | .undefinedAF => some 0xAF
  | .undefinedB2 => some 0xB2
  | .undefinedB3 => some 0xB3
  | .undefinedB7 => some 0xB7
  | .undefinedBB => some 0xBB
  | .undefinedBF => some 0xBF
  | .undefinedC2 => some 0xC2
  | .undefinedC3 => some 0xC3
  | .undefinedC7 => some 0xC7
  | .undefinedCB => some 0xCB
  | .undefinedCF => some 0xCF
  | .undefinedD2 => some 0xD2
  | .undefinedD3 => some 0xD3
  | .undefinedD4 => some 0xD4
  | .undefinedD7 => some 0xD7
  | .undefinedDA => some 0xDA
  | .undefinedDB => some 0xDB
  | .undefinedDC => some 0xDC
  | .undefinedDF => some 0xDF
  | .undefinedE2 => some 0xE2
  | .undefinedE3 => some 0xE3
  | .undefinedE7 => some 0xE7
  | .undefinedEB => some 0xEB
  | .undefinedEF => some 0xEF
  | .undefinedF2 => some 0xF2
  | .undefinedF3 => some 0xF3
  | .undefinedF4 => some 0xF4
  | .undefinedF7 => some 0xF7
  | .undefinedFA => some 0xFA
  | .undefinedFB => some 0xFB
  | .undefinedFC => some 0xFC
  | .undefinedFF => some 0xFF
  | .ppuctrlWrite _ | .ppustatusRead | .ppuscrollWriteFirst _ | .ppuscrollWriteSecond _ | .ppuaddrWriteFirst _
  | .ppuaddrWriteSecond _ | .ppudataRead | .ppudataWrite _ | .fineYIncrement | .interruptBrk | .interruptIrq
  | .interruptReset | .interruptNmi => none

def MemMode.operandBytes : MemMode → List Byte
  | .zeroPage b1 | .zeroPageX b1 | .zeroPageY b1 | .zpXIndirect b1 | .zpIndirectY b1 => [b1]
  | .absolute w | .absoluteX w | .absoluteY w => [lo w, hi w]

def Source.operandBytes : Source → List Byte
  | .immediate b1 => [b1]
  | .memory m => m.operandBytes

def Place.operandBytes : Place → List Byte
  | .accumulator => []
  | .memory m => m.operandBytes

def Target.operandBytes : Target → List Byte
  | .absolute w | .indirect w => [lo w, hi w]

/-- The operand bytes in ascending address order, low byte of an address first (20_memory.md R52; 30_encoding.md R82). -/
def Instr.operandBytes : Instr → List Byte
  | .ora o => o.operandBytes
  | .and o => o.operandBytes
  | .eor o => o.operandBytes
  | .bit m => m.operandBytes
  | .asl o => o.operandBytes
  | .lsr o => o.operandBytes
  | .rol o => o.operandBytes
  | .ror o => o.operandBytes
  | .adc o => o.operandBytes
  | .sbc o => o.operandBytes
  | .cmp o => o.operandBytes
  | .cpx o => o.operandBytes
  | .cpy o => o.operandBytes
  | .lda o => o.operandBytes
  | .ldx o => o.operandBytes
  | .ldy o => o.operandBytes
  | .sta m => m.operandBytes
  | .stx m => m.operandBytes
  | .sty m => m.operandBytes
  | .inc m => m.operandBytes
  | .dec m => m.operandBytes
  | .bcc b1 => [b1]
  | .bcs b1 => [b1]
  | .beq b1 => [b1]
  | .bmi b1 => [b1]
  | .bne b1 => [b1]
  | .bpl b1 => [b1]
  | .bvc b1 => [b1]
  | .bvs b1 => [b1]
  | .jmp t => t.operandBytes
  | .jsr addr => [lo addr, hi addr]
  | .tax | .tay | .txa | .tya | .tsx | .txs | .inx | .iny | .dex | .dey | .pha | .php | .pla | .plp | .clc | .sec
  | .cli | .sei | .clv | .cld | .sed | .nop | .rts | .rti | .brk | .ppuctrlWrite _ | .ppustatusRead
  | .ppuscrollWriteFirst _ | .ppuscrollWriteSecond _ | .ppuaddrWriteFirst _ | .ppuaddrWriteSecond _ | .ppudataRead
  | .ppudataWrite _ | .fineYIncrement | .interruptBrk | .interruptIrq | .interruptReset | .interruptNmi
  | .undefined02 | .undefined03 | .undefined04 | .undefined07 | .undefined0B | .undefined0C | .undefined0F
  | .undefined12 | .undefined13 | .undefined14 | .undefined17 | .undefined1A | .undefined1B | .undefined1C
  | .undefined1F | .undefined22 | .undefined23 | .undefined27 | .undefined2B | .undefined2F | .undefined32
  | .undefined33 | .undefined34 | .undefined37 | .undefined3A | .undefined3B | .undefined3C | .undefined3F
  | .undefined42 | .undefined43 | .undefined44 | .undefined47 | .undefined4B | .undefined4F | .undefined52
  | .undefined53 | .undefined54 | .undefined57 | .undefined5A | .undefined5B | .undefined5C | .undefined5F
  | .undefined62 | .undefined63 | .undefined64 | .undefined67 | .undefined6B | .undefined6F | .undefined72
  | .undefined73 | .undefined74 | .undefined77 | .undefined7A | .undefined7B | .undefined7C | .undefined7F
  | .undefined80 | .undefined82 | .undefined83 | .undefined87 | .undefined89 | .undefined8B | .undefined8F
  | .undefined92 | .undefined93 | .undefined97 | .undefined9B | .undefined9C | .undefined9E | .undefined9F
  | .undefinedA3 | .undefinedA7 | .undefinedAB | .undefinedAF | .undefinedB2 | .undefinedB3 | .undefinedB7
  | .undefinedBB | .undefinedBF | .undefinedC2 | .undefinedC3 | .undefinedC7 | .undefinedCB | .undefinedCF
  | .undefinedD2 | .undefinedD3 | .undefinedD4 | .undefinedD7 | .undefinedDA | .undefinedDB | .undefinedDC
  | .undefinedDF | .undefinedE2 | .undefinedE3 | .undefinedE7 | .undefinedEB | .undefinedEF | .undefinedF2
  | .undefinedF3 | .undefinedF4 | .undefinedF7 | .undefinedFA | .undefinedFB | .undefinedFC | .undefinedFF => []

/-- The bytes of a well-formed instruction that has an opcode; no byte for any other. Log 13 (BRK's padding byte is not among them). -/
def encode (i : Instr) : List Byte :=
  match i.opcode with
  | some op => op :: i.operandBytes
  | none => []

/-- The call that makes an operation with no opcode byte (49_ppu_vt.md R290; 60_exceptions.md R321). The first and second writes of a
port are the same call: the toggle tells them apart. -/
def encodeCall : Instr → Option Turn
  | .ppuctrlWrite d => some (.portWrite 0 d)
  | .ppustatusRead => some (.portRead 2)
  | .ppuscrollWriteFirst d | .ppuscrollWriteSecond d => some (.portWrite 5 d)
  | .ppuaddrWriteFirst d | .ppuaddrWriteSecond d => some (.portWrite 6 d)
  | .ppudataRead => some (.portRead 7)
  | .ppudataWrite d => some (.portWrite 7 d)
  | .fineYIncrement => some .fineYIncrement
  | .interruptBrk => some (.interrupt .brk)
  | .interruptIrq => some (.interrupt .irq)
  | .interruptReset => some (.interrupt .reset)
  | .interruptNmi => some (.interrupt .nmi)
  | .ora _ | .and _ | .eor _ | .bit _ | .asl _ | .lsr _ | .rol _ | .ror _ | .adc _ | .sbc _ | .cmp _ | .cpx _
  | .cpy _ | .lda _ | .ldx _ | .ldy _ | .sta _ | .stx _ | .sty _ | .tax | .tay | .txa | .tya | .tsx | .txs | .inc _
  | .dec _ | .inx | .iny | .dex | .dey | .bcc _ | .bcs _ | .beq _ | .bmi _ | .bne _ | .bpl _ | .bvc _ | .bvs _ | .pha
  | .php | .pla | .plp | .clc | .sec | .cli | .sei | .clv | .cld | .sed | .nop | .jmp _ | .jsr _ | .rts | .rti | .brk
  | .undefined02 | .undefined03 | .undefined04 | .undefined07 | .undefined0B | .undefined0C | .undefined0F
  | .undefined12 | .undefined13 | .undefined14 | .undefined17 | .undefined1A | .undefined1B | .undefined1C
  | .undefined1F | .undefined22 | .undefined23 | .undefined27 | .undefined2B | .undefined2F | .undefined32
  | .undefined33 | .undefined34 | .undefined37 | .undefined3A | .undefined3B | .undefined3C | .undefined3F
  | .undefined42 | .undefined43 | .undefined44 | .undefined47 | .undefined4B | .undefined4F | .undefined52
  | .undefined53 | .undefined54 | .undefined57 | .undefined5A | .undefined5B | .undefined5C | .undefined5F
  | .undefined62 | .undefined63 | .undefined64 | .undefined67 | .undefined6B | .undefined6F | .undefined72
  | .undefined73 | .undefined74 | .undefined77 | .undefined7A | .undefined7B | .undefined7C | .undefined7F
  | .undefined80 | .undefined82 | .undefined83 | .undefined87 | .undefined89 | .undefined8B | .undefined8F
  | .undefined92 | .undefined93 | .undefined97 | .undefined9B | .undefined9C | .undefined9E | .undefined9F
  | .undefinedA3 | .undefinedA7 | .undefinedAB | .undefinedAF | .undefinedB2 | .undefinedB3 | .undefinedB7
  | .undefinedBB | .undefinedBF | .undefinedC2 | .undefinedC3 | .undefinedC7 | .undefinedCB | .undefinedCF
  | .undefinedD2 | .undefinedD3 | .undefinedD4 | .undefinedD7 | .undefinedDA | .undefinedDB | .undefinedDC
  | .undefinedDF | .undefinedE2 | .undefinedE3 | .undefinedE7 | .undefinedEB | .undefinedEF | .undefinedF2
  | .undefinedF3 | .undefinedF4 | .undefinedF7 | .undefinedFA | .undefinedFB | .undefinedFC | .undefinedFF => none

/-- The table row a call stands for, given the toggle `w` (49_ppu_vt.md R290, R291 to R300; 60_exceptions.md R321); none for a call
the table has no row for (49_ppu_vt.md R301, R302, R303; 70_reset_and_hazards.md R350 to R352). -/
def decodeCall (t : Turn) (w : Bool) : Option Instr :=
  match t with
  | .portWrite off d =>
    match off.toNat % 8 with
    | 0 => some (.ppuctrlWrite d)
    | 5 => some (if w then .ppuscrollWriteSecond d else .ppuscrollWriteFirst d)
    | 6 => some (if w then .ppuaddrWriteSecond d else .ppuaddrWriteFirst d)
    | 7 => some (.ppudataWrite d)
    | _ => none
  | .portRead off =>
    match off.toNat % 8 with
    | 2 => some .ppustatusRead
    | 7 => some .ppudataRead
    | _ => none
  | .fineYIncrement => some .fineYIncrement
  | .interrupt .brk => some .interruptBrk
  | .interrupt .irq => some .interruptIrq
  | .interrupt .reset => some .interruptReset
  | .interrupt .nmi => some .interruptNmi
  | .cpu | .setVblank | .powerResetState _ | .cpuPowerOn _ => none

/-- The call that stands for a 16-bit PPU_PORT word of spec/opcode_table.json, whose bits are the address `0x2000 + off` and whose data
byte, having no bits in the table, is 0. The word gives no direction: the call is the one the table has a row for, and a read for
port 7, which has rows for both. Log 12. -/
def tableCall (off : BitVec 13) : Turn :=
  match off.toNat % 8 with
  | 0 | 5 | 6 => .portWrite off 0
  | _ => .portRead off

/-- Whether the table's word is a PPU_PORT word: only those rows have 16 bits, and their bits 15 to 13 are 001. -/
def isPortWord (nbits w : Nat) : Bool := nbits == 16 && w / 0x2000 % 8 == 1

/-- The three bytes of a word, the first least significant; bits from `nbits` up are 0. -/
def tableBytes (nbits w : Nat) : List Byte :=
  let w := w % 2 ^ nbits
  [BitVec.ofNat 8 w, BitVec.ofNat 8 (w / 0x100), BitVec.ofNat 8 (w / 0x10000)]

/-- The instruction the decoder reads from the bits of a row of spec/opcode_table.json. A port word is decoded with `w = 0`, as after
reset (10_state.md R41). Log 12. -/
def decodeTableWord (nbits w : Nat) : Option Instr :=
  if isPortWord nbits w then decodeCall (tableCall (BitVec.ofNat 13 w)) false
  else
    match decode (tableBytes nbits w) with
    | .ok (i, _) => some i
    | .error _ => none

end Sys2Proof
end

