-- ==== Sys2Proof/Machine/State.lean ====
section
/-! DEFINITION. The state of the block as plain data (10_state.md), the state after power-on (70_reset_and_hazards.md R350, R351),
and the reasons a step could stop. -/

namespace Sys2Proof.Machine

/-- The processor status: seven one-bit flags (10_state.md R23). The unused bit is not state (R31), and the packed byte exists
only on the stack and at the accessor `flags`. -/
structure Status where
  /-- Negative: 10_state.md R30. -/
  n : Bool
  /-- Overflow, the document's `v`: 10_state.md R29. -/
  vf : Bool
  /-- Break: 10_state.md R28. -/
  b : Bool
  /-- Decimal, a stored bit with no effect: 10_state.md R27. -/
  d : Bool
  /-- Interrupt-disable: 10_state.md R26. -/
  i : Bool
  /-- Zero: 10_state.md R25. -/
  z : Bool
  /-- Carry: 10_state.md R24. -/
  c : Bool
  deriving DecidableEq, Repr

/-- The registers of the PPU port engine (10_state.md R33 to R37). -/
structure Ppu where
  /-- The current VRAM address: 10_state.md R33. -/
  v : BitVec 15
  /-- The temporary VRAM address: 10_state.md R33. -/
  t : BitVec 15
  /-- The fine X latch: 10_state.md R34. -/
  fx : BitVec 3
  /-- The write toggle; true is 1, the next write is a second write: 10_state.md R35. -/
  w : Bool
  /-- PPUCTRL: 10_state.md R36. -/
  ppuctrl : Byte
  /-- PPUSTATUS: 10_state.md R37. -/
  ppustatus : Byte
  deriving DecidableEq, Repr

/-- A memory: (backing location, byte) pairs in canonical form (`Memory.wf`, in Machine/Memory.lean). A location that is not listed
reads `Config.unlistedByte` (log 2). -/
abbrev Memory := List Host.Cell

/-- The state of the block, of its memories, and of the model's schedule. -/
structure State where
  /-- The accumulator: 10_state.md R20. -/
  a : Byte
  /-- Index register X: 10_state.md R20. -/
  x : Byte
  /-- Index register Y: 10_state.md R20. -/
  y : Byte
  /-- The stack pointer: 10_state.md R21. -/
  s : Byte
  /-- The program counter: 10_state.md R22. -/
  pc : Word
  /-- The processor status: 10_state.md R23. -/
  ps : Status
  /-- The PPU port engine's registers: 10_state.md R33 to R37. -/
  ppu : Ppu
  /-- CPU memory by backing location (20_memory.md R50, R55, R57). -/
  cpuMem : Memory
  /-- PPU memory by backing location (20_memory.md R51, R58). -/
  ppuMem : Memory
  /-- The model's own: the number of free values drawn so far. Log 3. -/
  drawn : Nat
  /-- The model's own: the turns the agents take next; when the list is empty the CPU steps. Log 4. -/
  turns : List Turn
  /-- The model's own, an output only: the count the last `step()` or `interrupt(type)` returned (70_reset_and_hazards.md R365,
  R369, R370). Log 10. -/
  cycles : Nat
  /-- The model's own, an output only: the byte the last port read called from outside the CPU returned. Log 10. -/
  portData : Byte
  /-- The launch parameters; no operation writes them (10_state.md R40). -/
  cfg : Params
  deriving DecidableEq, Repr

def State.setA (m : State) (v : Byte) : State := { m with a := v }

def State.setX (m : State) (v : Byte) : State := { m with x := v }

def State.setY (m : State) (v : Byte) : State := { m with y := v }

def State.setS (m : State) (v : Byte) : State := { m with s := v }

def State.setPc (m : State) (v : Word) : State := { m with pc := v }

def State.setPs (m : State) (v : Status) : State := { m with ps := v }

def State.setPpu (m : State) (v : Ppu) : State := { m with ppu := v }

def State.setCpuMem (m : State) (v : Memory) : State := { m with cpuMem := v }

def State.setPpuMem (m : State) (v : Memory) : State := { m with ppuMem := v }

def State.setDrawn (m : State) (v : Nat) : State := { m with drawn := v }

def State.setTurns (m : State) (v : List Turn) : State := { m with turns := v }

def State.setCycles (m : State) (v : Nat) : State := { m with cycles := v }

def State.setPortData (m : State) (v : Byte) : State := { m with portData := v }

/-- A step never faults: "The execution core does not raise recoverable exceptions during a step" (60_exceptions.md R320), and every
read and write completes (20_memory.md R66). The type has no constructor, which is the strongest way to say so; it is safe,
because there is no stop that a claim could hide behind. -/
inductive Fault where
  deriving DecidableEq, Repr

/-- The one reason the host's interface asks for. No arm of `exec` uses it. -/
inductive Refusal where
  /-- Raised by an arm of `exec` for an instruction that has no meaning yet; safe. There is none. -/
  | notModelled (mnemonic : String)
  deriving DecidableEq, Repr

/-- The flags of a packed status byte: bit 5 is discarded, and bit 4 gives `b` (00_scope.md R12 with `keepb`). -/
def Status.ofByte (p : Byte) : Status :=
  { n := p.getLsbD 7, vf := p.getLsbD 6, b := p.getLsbD 4, d := p.getLsbD 3, i := p.getLsbD 2, z := p.getLsbD 1,
    c := p.getLsbD 0 }

/-- The PPU registers after `powerResetState(isReset = false)`: 70_reset_and_hazards.md R351. -/
def Ppu.powerOn : Ppu := { v := 0, t := 0, fx := 0, w := false, ppuctrl := 0x00, ppustatus := 0xA0 }

/-- The state the host creates at power-on, from the launch parameters: `CPU_INIT`, the launch memories and the configuration
(70_reset_and_hazards.md R350, R351; 20_memory.md R67; 10_state.md R41). -/
def State.powerOn (init : CpuInit) (cpuMem ppuMem : Memory) (cfg : Params) : State :=
  { a := init.a, x := init.x, y := init.y, s := init.s, pc := init.pc, ps := Status.ofByte init.ps,
    ppu := Ppu.powerOn, cpuMem := cpuMem, ppuMem := ppuMem,
    drawn := 0, turns := [], cycles := 0, portData := 0x00, cfg := cfg }

/-- The state after reset with the launch parameters this model names (log 1, log 2, log 8, log 9): no memory listed, no turn
pending. -/
def State.reset : State := State.powerOn Config.cpuInit [] [] Config.params

end Sys2Proof.Machine
end

