-- ==== Sys2Proof/Machine/Flags.lean ====
section
/-! DEFINITION. The ALU as a combinational block with its flag outputs and write enables (41_alu.md), and the packed status byte
(00_scope.md R12). -/

namespace Sys2Proof.Machine

/-- The operations of the ALU: 41_alu.md R140. -/
inductive AluOp where
  | ora
  | and
  | eor
  | bit
  | asl
  | lsr
  | rol
  | ror
  | adc
  | sbc
  | cmp
  | inc
  | dec
  | pass
  deriving DecidableEq, Repr

/-- The outputs of the ALU: the result, and for each flag its new value, or none where the write enable is 0 (41_alu.md R140). -/
structure AluOut where
  r : Byte
  c : Option Bool
  z : Option Bool
  vf : Option Bool
  n : Option Bool
  deriving DecidableEq, Repr

/-- A result that drives `z` and `n` only: `zout = (R == 0)`, `nout = R[7]` (41_alu.md R141). -/
def outZN (r : Byte) : AluOut := { r := r, c := none, z := some (r == 0), vf := none, n := some (r.getLsbD 7) }

/-- A result that drives `c` as well. -/
def outCZN (r : Byte) (c : Bool) : AluOut := { outZN r with c := some c }

/-- ADC: the 9-bit sum `T`, its low byte, its bit 8, and the signed overflow (41_alu.md R150). -/
def aluAdc (A B : Byte) (cin : Bool) : AluOut :=
  let T : Nat := A.toNat + B.toNat + cin.toNat
  let R : Byte := BitVec.ofNat 8 T
  { outCZN R (decide (256 ≤ T)) with vf := some (((A ^^^ R) &&& (B ^^^ R) &&& 0x80) != 0) }

/-- SBC: the difference `T` in -256 to 255, its residue, "no borrow", and the signed overflow (41_alu.md R151). -/
def aluSbc (A B : Byte) (cin : Bool) : AluOut :=
  let T : Int := A.toNat - B.toNat - (1 - cin.toNat)
  let R : Byte := BitVec.ofInt 8 T
  { outCZN R (decide (0 ≤ T)) with vf := some (((A ^^^ B) &&& (A ^^^ R) &&& 0x80) != 0) }

/-- BIT: `z` from `A & B`, `n` and `vf` from the operand's bits 7 and 6 (41_alu.md R145). -/
def aluBit (A B : Byte) : AluOut :=
  { r := A &&& B, c := none, z := some (A &&& B == 0), vf := some (B.getLsbD 6), n := some (B.getLsbD 7) }

/-- The ALU: 41_alu.md R142 to R156. -/
def alu (op : AluOp) (A B : Byte) (cin : Bool) : AluOut :=
  match op with
  | .ora => outZN (A ||| B)
  | .and => outZN (A &&& B)
  | .eor => outZN (A ^^^ B)
  | .bit => aluBit A B
  | .asl => outCZN (B <<< 1) (B.getLsbD 7)
  | .lsr => { outCZN (B >>> 1) (B.getLsbD 0) with n := some false }
  | .rol => outCZN (B.extractLsb' 0 7 ++ BitVec.ofBool cin) (B.getLsbD 7)
  | .ror => outCZN (BitVec.ofBool cin ++ B.extractLsb' 1 7) (B.getLsbD 0)
  | .adc => aluAdc A B cin
  | .sbc => aluSbc A B cin
  | .cmp => outCZN (A - B) (decide (B.toNat ≤ A.toNat))
  | .inc => outZN (B + 1)
  | .dec => outZN (B - 1)
  | .pass => outZN B

/-- The flags after an ALU operation: a flag that is not driven keeps its value, and `i`, `d`, `b` are never driven (41_alu.md R140,
R159). -/
def Status.drive (o : AluOut) (p : Status) : Status :=
  { p with c := o.c.getD p.c, z := o.z.getD p.z, vf := o.vf.getD p.vf, n := o.n.getD p.n }

/-- `Pack(bflag)`: the byte with `n`, `vf`, 1, `bflag`, `d`, `i`, `z`, `c` from bit 7 down (00_scope.md R12). -/
def pack (p : Status) (bflag : Bool) : Byte :=
  BitVec.ofBool p.n ++ BitVec.ofBool p.vf ++ 1#1 ++ BitVec.ofBool bflag ++ BitVec.ofBool p.d ++ BitVec.ofBool p.i
    ++ BitVec.ofBool p.z ++ BitVec.ofBool p.c

/-- `Unpack(p, keepb)`: bit 5 is discarded, and `b` is bit 4 or 0 (00_scope.md R12). -/
def unpack (p : Byte) (keepb : Bool) : Status :=
  { n := p.getLsbD 7, vf := p.getLsbD 6, b := keepb && p.getLsbD 4, d := p.getLsbD 3, i := p.getLsbD 2,
    z := p.getLsbD 1, c := p.getLsbD 0 }

end Sys2Proof.Machine
end

