-- ==== Sys2Proof/Machine/Memory.lean ====
section
/-! DEFINITION. The one representation of both memories: a list of (location, byte) pairs in canonical form. -/

namespace Sys2Proof.Machine

/-- The byte at a location; what no write has listed reads `Config.unlistedByte` (log 2). -/
def Memory.get : Memory → Nat → Byte
  | [], _ => Config.unlistedByte
  | (k, v) :: m, a => if k = a then v else Memory.get m a

/-- Write a byte: the list stays sorted, and the byte an unlisted location reads as is never listed. -/
def Memory.set : Memory → Nat → Byte → Memory
  | [], a, v => if v = Config.unlistedByte then [] else [(a, v)]
  | (k, u) :: m, a, v =>
    if a < k then (if v = Config.unlistedByte then (k, u) :: m else (a, v) :: (k, u) :: m)
    else if k = a then (if v = Config.unlistedByte then m else (a, v) :: m)
    else (k, u) :: Memory.set m a v

/-- Every location of the list is above `k`. -/
def Memory.above (k : Nat) (m : Memory) : Bool := m.all fun c => k < c.1

/-- The canonical form: locations strictly rising, and no entry that an unlisted location would read as. Two memories in this form
that read the same are equal (Laws/Memory.lean, `Memory.ext_of_wf`). -/
def Memory.wf : Memory → Bool
  | [] => true
  | (k, v) :: m => v != Config.unlistedByte && Memory.above k m && Memory.wf m

end Sys2Proof.Machine
end

