-- ==== Sys2Proof/Machine/Ports.lean ====
section
/-! DEFINITION. The PPU register engine: port selection and the operations on `v`, `t`, `fx`, `w` (49_ppu_vt.md), over the PPU's own
memory interface (20_memory.md R58). -/

namespace Sys2Proof.Machine

/-- Draw a free byte: the value the spec leaves unspecified (49_ppu_vt.md R302, R303). Log 3. -/
def drawByte (s : State) : Byte × State := (Config.freeByte s.drawn, s.setDrawn (s.drawn + 1))

/-- The fields of a VRAM address: 10_state.md R33. -/
def fineY (p : BitVec 15) : BitVec 3 := p.extractLsb' 12 3

def ntSelect (p : BitVec 15) : BitVec 2 := p.extractLsb' 10 2

def coarseY (p : BitVec 15) : BitVec 5 := p.extractLsb' 5 5

def coarseX (p : BitVec 15) : BitVec 5 := p.extractLsb' 0 5

/-- The VRAM address with the given fields, fine Y in bits 14:12 down to coarse X in bits 4:0 (10_state.md R33). -/
def vram (fy : BitVec 3) (nt : BitVec 2) (cy cx : BitVec 5) : BitVec 15 := fy ++ nt ++ cy ++ cx

/-- Where the address map of `NT_MIRROR` sends a location below the palette (20_memory.md R58). Log 8. -/
def ntBacking : List (Nat × Nat) → Nat → Nat
  | [], k => k
  | (p, q) :: m, k => if p = k then q else ntBacking m k

/-- The mirroring of the PPU's memory interface (20_memory.md R58): an address above 0x3FFF is reduced, the palette repeats every 0x20
from 0x3F00, and below it the launch's address map applies. -/
def ppuBacking (cfg : Params) (addr : Word) : Nat :=
  let k := addr.toNat % 0x4000
  if 0x3F00 ≤ k then 0x3F00 + k % 0x20 else ntBacking cfg.ntMap k

/-- `PpuRead(addr)`: 00_scope.md R14. -/
def ppuRead (addr : Word) (s : State) : Byte := s.ppuMem.get (ppuBacking s.cfg addr)

/-- `PpuWrite(addr, v)`: 00_scope.md R14. -/
def ppuWrite (addr : Word) (v : Byte) (s : State) : State := s.setPpuMem (s.ppuMem.set (ppuBacking s.cfg addr) v)

/-- `zext_16(v)`: the address the engine hands to the memory interface (49_ppu_vt.md R298). -/
def vramAddr (p : Ppu) : Word := p.v.zeroExtend 16

/-- The increment-mode bit is `ppuctrl[2]`: 1 adds 32, 0 adds 1 (10_state.md R36). -/
def vramStep (p : Ppu) : BitVec 15 := if p.ppuctrl.getLsbD 2 then 32 else 1

/-- The increment of `v` after a `$2007` access, modulo 32768 (49_ppu_vt.md R298, R299). -/
def incrementV (p : Ppu) : Ppu := { p with v := p.v + vramStep p }

/-- Write `$2000` (PPUCTRL): 49_ppu_vt.md R291. -/
def writeCtrl (d : Byte) (s : State) : State :=
  s.setPpu
    { s.ppu with
      ppuctrl := d
      t := if s.cfg.ppuctrlWritesTNt then vram (fineY s.ppu.t) (d.extractLsb' 0 2) (coarseY s.ppu.t) (coarseX s.ppu.t)
           else s.ppu.t }

/-- Read `$2002` (PPUSTATUS): the byte before the clear; then the vblank flag, bit 7, and `w` are 0 (49_ppu_vt.md R292). -/
def readStatus (s : State) : Byte × State :=
  (s.ppu.ppustatus, s.setPpu { s.ppu with ppustatus := s.ppu.ppustatus &&& 0x7F, w := false })

/-- Write `$2005` (PPUSCROLL), first write: 49_ppu_vt.md R293. -/
def writeScrollFirst (d : Byte) (s : State) : State :=
  s.setPpu
    { s.ppu with
      t := vram (fineY s.ppu.t) (ntSelect s.ppu.t) (coarseY s.ppu.t) (d.extractLsb' 3 5)
      fx := d.extractLsb' 0 3
      w := true }

/-- Write `$2005` (PPUSCROLL), second write: 49_ppu_vt.md R294. -/
def writeScrollSecond (d : Byte) (s : State) : State :=
  s.setPpu
    { s.ppu with
      t := vram (d.extractLsb' 0 3) (ntSelect s.ppu.t) (d.extractLsb' 3 5) (coarseX s.ppu.t)
      w := false }

/-- Write `$2006` (PPUADDR), first write: bit 14 is cleared and `t[13:8]` is `d[5:0]` (49_ppu_vt.md R295). -/
def writeAddrFirst (d : Byte) (s : State) : State :=
  s.setPpu { s.ppu with t := 0#1 ++ d.extractLsb' 0 6 ++ s.ppu.t.extractLsb' 0 8, w := true }

/-- Write `$2006` (PPUADDR), second write: `t[7:0]` is `d`, then `v` is all of `t` (49_ppu_vt.md R296). -/
def writeAddrSecond (d : Byte) (s : State) : State :=
  let t : BitVec 15 := s.ppu.t.extractLsb' 8 7 ++ d
  s.setPpu { s.ppu with t := t, v := t, w := false }

/-- Read `$2007` (PPUDATA): the byte at `v`, with no read buffer; then `v` moves on (49_ppu_vt.md R298). -/
def readData (s : State) : Byte × State := (ppuRead (vramAddr s.ppu) s, s.setPpu (incrementV s.ppu))

/-- Write `$2007` (PPUDATA) at `v` before the increment: 49_ppu_vt.md R299. -/
def writeData (d : Byte) (s : State) : State :=
  let s := ppuWrite (vramAddr s.ppu) d s
  s.setPpu (incrementV s.ppu)

/-- The vertical scroll increment of a VRAM address: 49_ppu_vt.md R300. The vertical nametable-select bit is bit 11, bit 1 of the
field. -/
def fineYStep (p : BitVec 15) : BitVec 15 :=
  if fineY p ≠ 7 then vram (fineY p + 1) (ntSelect p) (coarseY p) (coarseX p)
  else if coarseY p = 29 then vram 0 (ntSelect p ^^^ 2) 0 (coarseX p)
  else if coarseY p = 31 then vram 0 (ntSelect p) 0 (coarseX p)
  else vram 0 (ntSelect p) (coarseY p + 1) (coarseX p)

/-- `fineYIncrement` acts on `v` (49_ppu_vt.md R300). -/
def fineYIncrement (s : State) : State := s.setPpu { s.ppu with v := fineYStep s.ppu.v }

/-- The eight ports (10_state.md R38; 49_ppu_vt.md R290). -/
inductive Port where
  | ppuctrl
  | ppumask
  | ppustatus
  | oamaddr
  | oamdata
  | ppuscroll
  | ppuaddr
  | ppudata
  deriving DecidableEq, Repr

/-- The port an address of 0x2000 to 0x3FFF selects: `r = A & 7` (49_ppu_vt.md R290). -/
def portOf (a : Nat) : Port :=
  match a % 8 with
  | 0 => .ppuctrl
  | 1 => .ppumask
  | 2 => .ppustatus
  | 3 => .oamaddr
  | 4 => .oamdata
  | 5 => .ppuscroll
  | 6 => .ppuaddr
  | _ => .ppudata

/-- A read of a port. A write-only port (49_ppu_vt.md R302) and an out-of-scope port (R303) give an unspecified byte and change
nothing. -/
def portRead (p : Port) (s : State) : Byte × State :=
  match p with
  | .ppustatus => readStatus s
  | .ppudata => readData s
  | .ppuctrl => drawByte s
  | .ppuscroll => drawByte s
  | .ppuaddr => drawByte s
  | .ppumask => drawByte s
  | .oamaddr => drawByte s
  | .oamdata => drawByte s

/-- A write of a port. `$2005` and `$2006` share the toggle (49_ppu_vt.md R297); a write of `$2002` changes nothing (R302); a write of
an out-of-scope port changes only state outside the block (R303, log 5). -/
def portWrite (p : Port) (d : Byte) (s : State) : State :=
  match p with
  | .ppuctrl => writeCtrl d s
  | .ppuscroll => if s.ppu.w then writeScrollSecond d s else writeScrollFirst d s
  | .ppuaddr => if s.ppu.w then writeAddrSecond d s else writeAddrFirst d s
  | .ppudata => writeData d s
  | .ppustatus => s
  | .ppumask => s
  | .oamaddr => s
  | .oamdata => s

/-- A port read called from outside the CPU: its byte goes to the caller (49_ppu_vt.md R290). Log 10. -/
def callRead (r : Byte × State) : State := r.2.setPortData r.1

/-- `powerResetState(isReset)`. At power-on every register is initialised (70_reset_and_hazards.md R351). At reset the vblank bit and
`v` stay, bits 6:0 of PPUSTATUS are unspecified, and the rest is 0 (R352). -/
def powerResetState (isReset : Bool) (s : State) : State :=
  if isReset then
    let r := drawByte s
    r.2.setPpu
      { v := s.ppu.v, t := 0, fx := 0, w := false, ppuctrl := 0x00,
        ppustatus := s.ppu.ppustatus.extractLsb' 7 1 ++ r.1.extractLsb' 0 7 }
  else s.setPpu Ppu.powerOn

/-- The scanline agent sets the vblank flag (49_ppu_vt.md R301). -/
def setVblank (s : State) : State := s.setPpu { s.ppu with ppustatus := s.ppu.ppustatus ||| 0x80 }

/-- The power-on function re-creates the CPU registers (70_reset_and_hazards.md R350, R353). -/
def cpuPowerOn (init : CpuInit) (s : State) : State :=
  (((((s.setA init.a).setX init.x).setY init.y).setS init.s).setPc init.pc).setPs (Status.ofByte init.ps)

end Sys2Proof.Machine
end

