-- ==== Sys2Proof/Machine/Ops.lean ====
section
/-! DEFINITION. The CPU's memory interface with its mirroring (20_memory.md), the stack (00_scope.md R11), and taking an interrupt
and returning from one (60_exceptions.md R324, R330). -/

namespace Sys2Proof.Machine

/-- Where an address of the CPU space leads (20_memory.md R55, R56, R57). -/
inductive Region where
  /-- A byte of storage at this backing location. -/
  | cell (k : Nat)
  /-- A port of the PPU register engine. -/
  | port (p : Port)
  /-- OAMDMA, which is outside the block (49_ppu_vt.md R303). Log 6. -/
  | oamDma
  deriving DecidableEq, Repr

/-- The CPU address map: RAM mirrors every 0x0800 below 0x2000 (20_memory.md R55), the ports mirror every 8 up to 0x3FFF (R56), OAMDMA is
at 0x4014 (10_state.md R38), and the rest is plain bytes (20_memory.md R57, log 7). -/
def regionOf (addr : Word) : Region :=
  let n := addr.toNat
  if n < 0x2000 then .cell (n % 0x800)
  else if n < 0x4000 then .port (portOf n)
  else if n = 0x4014 then .oamDma
  else .cell n

/-- `MemRead(addr, 1)`: the byte, and the state with the side effects of a port read (00_scope.md R10; 20_memory.md R59). -/
def memRead (addr : Word) (s : State) : Byte × State :=
  match regionOf addr with
  | .cell k => (s.cpuMem.get k, s)
  | .port p => portRead p s
  | .oamDma => drawByte s

/-- `MemWrite(addr, 1, v)`: 00_scope.md R10. -/
def memWrite (addr : Word) (v : Byte) (s : State) : State :=
  match regionOf addr with
  | .cell k => s.setCpuMem (s.cpuMem.set k v)
  | .port p => portWrite p v s
  | .oamDma => s

/-- The byte of storage an address reads, without a side effect; none where the address is no storage. The frame claims are stated
with it. -/
def peek (addr : Word) (s : State) : Option Byte :=
  match regionOf addr with
  | .cell k => some (s.cpuMem.get k)
  | .port _ => none
  | .oamDma => none

/-- `Read16(addr)`: low byte first, the high byte at `addr + 1` modulo 65536 (00_scope.md R10). -/
def read16 (addr : Word) (s : State) : Word × State :=
  let l := memRead addr s
  let h := memRead (addr + 1) l.2
  (word h.1 l.1, h.2)

/-- The address `0x0100 | s` (00_scope.md R11). -/
def stackAddr (sp : Byte) : Word := word 0x01 sp

/-- `Push(v)`: write, then decrement modulo 256 (00_scope.md R11). -/
def push (v : Byte) (s : State) : State :=
  let s := memWrite (stackAddr s.s) v s
  s.setS (s.s - 1)

/-- `Pull()`: increment modulo 256, then read (00_scope.md R11). -/
def pull (s : State) : Byte × State :=
  let s := s.setS (s.s + 1)
  memRead (stackAddr s.s) s

/-- The vectors: 60_exceptions.md R325. -/
def vector : IntType → Word
  | .nmi => 0xFFFA
  | .reset => 0xFFFC
  | .irq => 0xFFFE
  | .brk => 0xFFFE

/-- The gate: `i` masks BRK, IRQ and RESET, and never NMI (60_exceptions.md R322). -/
def masked (k : IntType) (s : State) : Bool := s.ps.i && k != .nmi

/-- The entry sequence of an interrupt that is not ignored, up to the vector: `pc` high, `pc` low and the status are pushed, then `i` is
set (60_exceptions.md R324). Bit 4 of the pushed byte is 1 for BRK only, whatever the live `b` holds. -/
def pushFrame (k : IntType) (s : State) : State :=
  let s1 := push (hi s.pc) s
  let s2 := push (lo s.pc) s1
  let s3 := push (pack s.ps (k == .brk)) s2
  s3.setPs { s.ps with i := true }

/-- `Interrupt(type)`: ignored and forgotten with 0 cycles where the gate masks it (60_exceptions.md R322, R323); otherwise the frame is
pushed and `pc` is loaded from the vector, 7 cycles (R324; 70_reset_and_hazards.md R369). -/
def takeInterrupt (k : IntType) (s : State) : State :=
  if masked k s then s.setCycles 0
  else
    let t := read16 (vector k) (pushFrame k s)
    (t.2.setPc t.1).setCycles 7

/-- The return from an interrupt: the status with the break flag, then `pc` low, then `pc` high, with no adjustment (48_control.md R273;
60_exceptions.md R330). -/
def returnFromInterrupt (s : State) : State :=
  let p := pull s
  let l := pull (p.2.setPs (unpack p.1 true))
  let h := pull l.2
  h.2.setPc (word h.1 l.1)

end Sys2Proof.Machine
end

