-- ==== Sys2Proof/Machine/Operands.lean ====
section
/-! DEFINITION. The addressing-mode resolver (40_addressing.md), operand access (R126), and the shapes the instructions share. The
meanings run in the EXECUTING state: the step has fetched the instruction and `pc` is already `pc_next` (30_encoding.md R84, log 11). -/

namespace Sys2Proof.Machine

/-- What the resolver returns: the effective address and the page-cross signal (40_addressing.md R110), with the state after its pointer
reads. -/
structure Resolved where
  ea : Word
  cross : Bool
  st : State
  deriving DecidableEq, Repr

/-- The page-cross signal: the high bytes before and after indexing differ (40_addressing.md R124). -/
def crosses (base ea : Word) : Bool := hi ea != hi base

/-- A zero-page pointer, low byte first; its high byte stays in page zero (40_addressing.md R121, R122). -/
def zpPointer (p : Byte) (s : State) : Word × State :=
  let l := memRead (zext16 p) s
  let h := memRead (zext16 (p + 1)) l.2
  (word h.1 l.1, h.2)

/-- The resolver for the modes of kind MEMORY: 40_addressing.md R114 to R119, R121, R122. -/
def resolve (m : MemMode) (s : State) : Resolved :=
  match m with
  | .zeroPage b1 => ⟨zext16 b1, false, s⟩
  | .zeroPageX b1 => ⟨zext16 (b1 + s.x), false, s⟩
  | .zeroPageY b1 => ⟨zext16 (b1 + s.y), false, s⟩
  | .absolute w => ⟨w, false, s⟩
  | .absoluteX w => ⟨w + zext16 s.x, crosses w (w + zext16 s.x), s⟩
  | .absoluteY w => ⟨w + zext16 s.y, crosses w (w + zext16 s.y), s⟩
  | .zpXIndirect b1 =>
    let p := zpPointer (b1 + s.x) s
    ⟨p.1, false, p.2⟩
  | .zpIndirectY b1 =>
    let p := zpPointer b1 s
    ⟨p.1 + zext16 s.y, crosses p.1 (p.1 + zext16 s.y), p.2⟩

/-- The resolver for JMP: ABSOLUTE (40_addressing.md R117), and ABSOLUTE_INDIRECT, whose pointer's high byte comes from the same page as
its low byte (R120). -/
def resolveTarget (t : Target) (s : State) : Word × State :=
  match t with
  | .absolute w => (w, s)
  | .indirect ptr =>
    let l := memRead ptr s
    let h := memRead ((ptr &&& 0xFF00) ||| ((ptr + 1) &&& 0x00FF)) l.2
    (word h.1 l.1, h.2)

/-- An operand value `M` with the page-cross signal of its mode (40_addressing.md R126). -/
structure Fetched where
  val : Byte
  cross : Bool
  st : State
  deriving DecidableEq, Repr

/-- Read an operand once: IMMEDIATE without an access, MEMORY by `MemRead(ea, 1)` (40_addressing.md R126). -/
def readSource (o : Source) (s : State) : Fetched :=
  match o with
  | .immediate b1 => ⟨b1, false, s⟩
  | .memory m =>
    let p := resolve m s
    let q := memRead p.ea p.st
    ⟨q.1, p.cross, q.2⟩

/-- Set the flags an ALU output drives. -/
def driveFlags (o : AluOut) (s : State) : State := s.setPs (s.ps.drive o)

/-- `SetZN(r)` (00_scope.md R13): the flags of the ALU operation PASS (41_alu.md R156). -/
def setZN (r : Byte) (s : State) : State := driveFlags (alu .pass s.a r s.ps.c) s

/-- The step returns the base cycles of the instruction and the page-cross cycle (70_reset_and_hazards.md R365, R367). -/
def finish (i : Instr) (cross : Bool) (s : State) : State := s.setCycles (baseCycles i + cross.toNat)

/-- An ALU operation of the accumulator and an operand, stored in the accumulator: ORA, AND, EOR, ADC, SBC. -/
def aluToA (op : AluOp) (o : Source) (i : Instr) (s : State) : State :=
  let q := readSource o s
  let r := alu op q.st.a q.val q.st.ps.c
  finish i q.cross (driveFlags r (q.st.setA r.r))

/-- An ALU operation of a register and an operand whose result is discarded: BIT, CMP, CPX, CPY. -/
def aluTest (op : AluOp) (reg : Byte) (o : Source) (i : Instr) (s : State) : State :=
  let q := readSource o s
  finish i q.cross (driveFlags (alu op reg q.val q.st.ps.c) q.st)

/-- INX, INY, DEX, DEY: an ALU operation of a register, stored by `set` (45_load_store_transfer_incdec.md R214 to R217). -/
def aluToReg (op : AluOp) (reg : Byte) (set : State → Byte → State) (i : Instr) (s : State) : State :=
  let r := alu op s.a reg s.ps.c
  finish i false (driveFlags r (set s r.r))

/-- A load of the register that `set` writes: PASS (45_load_store_transfer_incdec.md R200 to R202). -/
def load (set : State → Byte → State) (o : Source) (i : Instr) (s : State) : State :=
  let q := readSource o s
  finish i q.cross (setZN q.val (set q.st q.val))

/-- A store: `ea` is written once and not read (45_load_store_transfer_incdec.md R203). -/
def store (v : Byte) (m : MemMode) (i : Instr) (s : State) : State :=
  let p := resolve m s
  finish i p.cross (memWrite p.ea v p.st)

/-- A read-modify-write of memory: one read of `ea`, then one write of `ea` (43_shift_rotate.md R180). -/
def modifyMem (op : AluOp) (m : MemMode) (i : Instr) (s : State) : State :=
  let p := resolve m s
  let q := memRead p.ea p.st
  let r := alu op q.2.a q.1 q.2.ps.c
  finish i p.cross (memWrite p.ea r.r (driveFlags r q.2))

/-- A shift or rotate: the result goes back where the operand came from (43_shift_rotate.md R180). -/
def modify (op : AluOp) (o : Place) (i : Instr) (s : State) : State :=
  match o with
  | .accumulator =>
    let r := alu op s.a s.a s.ps.c
    finish i false (driveFlags r (s.setA r.r))
  | .memory m => modifyMem op m i s

/-- The target of a branch: `pc_next + sext_16(b1)` (40_addressing.md R123; 46_branch.md R230). -/
def branchTarget (b1 : Byte) (s : State) : Word := s.pc + sext16 b1

/-- A conditional branch: 2 cycles when not taken, 3 when taken, 4 when the target's page is not that of `P0 + 1`, which is `pc_next - 1`
(46_branch.md R230, R239; 70_reset_and_hazards.md R368). -/
def branch (cond : Bool) (b1 : Byte) (i : Instr) (s : State) : State :=
  if cond then
    let extra := 1 + (crosses (s.pc - 1) (branchTarget b1 s)).toNat
    (s.setPc (branchTarget b1 s)).setCycles (baseCycles i + extra)
  else finish i false s

end Sys2Proof.Machine
end

