-- ==== Sys2Proof/Machine/Arith.lean ====
section
/-! DEFINITION. Arithmetic and compare instructions: 44_arithmetic_compare.md. -/

namespace Sys2Proof.Machine

/-- ADC, binary whatever `d` holds: 44_arithmetic_compare.md R190; 41_alu.md R152. -/
def execAdc (o : Source) (s : State) : Host.Outcome State Fault Refusal := .next (aluToA .adc o (.adc o) s)

/-- SBC, binary whatever `d` holds: 44_arithmetic_compare.md R191; 41_alu.md R152. -/
def execSbc (o : Source) (s : State) : Host.Outcome State Fault Refusal := .next (aluToA .sbc o (.sbc o) s)

/-- CMP: 44_arithmetic_compare.md R192. -/
def execCmp (o : Source) (s : State) : Host.Outcome State Fault Refusal := .next (aluTest .cmp s.a o (.cmp o) s)

/-- CPX: 44_arithmetic_compare.md R193. -/
def execCpx (o : Source) (s : State) : Host.Outcome State Fault Refusal := .next (aluTest .cmp s.x o (.cpx o) s)

/-- CPY: 44_arithmetic_compare.md R194. -/
def execCpy (o : Source) (s : State) : Host.Outcome State Fault Refusal := .next (aluTest .cmp s.y o (.cpy o) s)

end Sys2Proof.Machine
end

