-- ==== Sys2Proof/Machine/Branch.lean ====
section
/-! DEFINITION. Conditional branches: 46_branch.md. -/

namespace Sys2Proof.Machine

/-- BCC: 46_branch.md R231. -/
def execBcc (b1 : Byte) (s : State) : Host.Outcome State Fault Refusal := .next (branch (!s.ps.c) b1 (.bcc b1) s)

/-- BCS: 46_branch.md R232. -/
def execBcs (b1 : Byte) (s : State) : Host.Outcome State Fault Refusal := .next (branch s.ps.c b1 (.bcs b1) s)

/-- BEQ: 46_branch.md R233. -/
def execBeq (b1 : Byte) (s : State) : Host.Outcome State Fault Refusal := .next (branch s.ps.z b1 (.beq b1) s)

/-- BMI: 46_branch.md R234. -/
def execBmi (b1 : Byte) (s : State) : Host.Outcome State Fault Refusal := .next (branch s.ps.n b1 (.bmi b1) s)

/-- BNE: 46_branch.md R235. -/
def execBne (b1 : Byte) (s : State) : Host.Outcome State Fault Refusal := .next (branch (!s.ps.z) b1 (.bne b1) s)

/-- BPL: 46_branch.md R236. -/
def execBpl (b1 : Byte) (s : State) : Host.Outcome State Fault Refusal := .next (branch (!s.ps.n) b1 (.bpl b1) s)

/-- BVC: 46_branch.md R237. -/
def execBvc (b1 : Byte) (s : State) : Host.Outcome State Fault Refusal := .next (branch (!s.ps.vf) b1 (.bvc b1) s)

/-- BVS: 46_branch.md R238. -/
def execBvs (b1 : Byte) (s : State) : Host.Outcome State Fault Refusal := .next (branch s.ps.vf b1 (.bvs b1) s)

end Sys2Proof.Machine
end

