-- ==== Sys2Proof/Machine/Control.lean ====
section
/-! DEFINITION. Control transfer: 48_control.md. -/

namespace Sys2Proof.Machine

/-- JMP; nothing is read at the target: 48_control.md R270. -/
def execJmp (t : Target) (s : State) : Host.Outcome State Fault Refusal :=
  let p := resolveTarget t s
  .next (finish (.jmp t) false (p.2.setPc p.1))

/-- JSR pushes the address of its own last byte, `pc_next - 1`, high byte first: 48_control.md R271. -/
def execJsr (addr : Word) (s : State) : Host.Outcome State Fault Refusal :=
  let s1 := push (hi (s.pc - 1)) s
  let s2 := push (lo (s.pc - 1)) s1
  .next (finish (.jsr addr) false (s2.setPc addr))

/-- RTS pulls `pc` low, then high, and adds 1: 48_control.md R272. -/
def execRts (s : State) : Host.Outcome State Fault Refusal :=
  let l := pull s
  let h := pull l.2
  .next (finish .rts false (h.2.setPc (word h.1 l.1 + 1)))

/-- RTI: 48_control.md R273. -/
def execRti (s : State) : Host.Outcome State Fault Refusal := .next (finish .rti false (returnFromInterrupt s))

/-- BRK: `pc` goes to `P0 + 2`, which is `pc_next + 1` past the padding byte, and the interrupt sequence runs; the step returns what it
returns, with no base cycles added: 48_control.md R275; 30_encoding.md R94; 70_reset_and_hazards.md R369. -/
def execBrk (s : State) : Host.Outcome State Fault Refusal := .next (takeInterrupt .brk (s.setPc (s.pc + 1)))

end Sys2Proof.Machine
end

