-- ==== Sys2Proof/Machine/Interrupt.lean ====
section
/-! DEFINITION. Interrupt requests: 60_exceptions.md R321 to R327. -/

namespace Sys2Proof.Machine

/-- `interrupt(BRK)` from outside, with the current `pc`: 60_exceptions.md R321, R324. -/
def execInterruptBrk (s : State) : Host.Outcome State Fault Refusal := .next (takeInterrupt .brk s)

/-- `interrupt(IRQ)`: 60_exceptions.md R324. -/
def execInterruptIrq (s : State) : Host.Outcome State Fault Refusal := .next (takeInterrupt .irq s)

/-- `interrupt(RESET)`, an entry like any other, masked by `i`: 60_exceptions.md R327; 70_reset_and_hazards.md R353. -/
def execInterruptReset (s : State) : Host.Outcome State Fault Refusal := .next (takeInterrupt .reset s)

/-- `interrupt(NMI)`, never masked: 60_exceptions.md R324. -/
def execInterruptNmi (s : State) : Host.Outcome State Fault Refusal := .next (takeInterrupt .nmi s)

end Sys2Proof.Machine
end

