-- ==== Sys2Proof/Machine/Load.lean ====
section
/-! DEFINITION. Loads, stores, transfers, increments and decrements: 45_load_store_transfer_incdec.md. -/

namespace Sys2Proof.Machine

/-- LDA: 45_load_store_transfer_incdec.md R200. -/
def execLda (o : Source) (s : State) : Host.Outcome State Fault Refusal := .next (load State.setA o (.lda o) s)

/-- LDX: 45_load_store_transfer_incdec.md R201. -/
def execLdx (o : Source) (s : State) : Host.Outcome State Fault Refusal := .next (load State.setX o (.ldx o) s)

/-- LDY: 45_load_store_transfer_incdec.md R202. -/
def execLdy (o : Source) (s : State) : Host.Outcome State Fault Refusal := .next (load State.setY o (.ldy o) s)

/-- STA: 45_load_store_transfer_incdec.md R203. -/
def execSta (m : MemMode) (s : State) : Host.Outcome State Fault Refusal := .next (store s.a m (.sta m) s)

/-- STX: 45_load_store_transfer_incdec.md R204. -/
def execStx (m : MemMode) (s : State) : Host.Outcome State Fault Refusal := .next (store s.x m (.stx m) s)

/-- STY: 45_load_store_transfer_incdec.md R205. -/
def execSty (m : MemMode) (s : State) : Host.Outcome State Fault Refusal := .next (store s.y m (.sty m) s)

/-- TAX: 45_load_store_transfer_incdec.md R206. -/
def execTax (s : State) : Host.Outcome State Fault Refusal := .next (finish .tax false (setZN s.a (s.setX s.a)))

/-- TAY: 45_load_store_transfer_incdec.md R207. -/
def execTay (s : State) : Host.Outcome State Fault Refusal := .next (finish .tay false (setZN s.a (s.setY s.a)))

/-- TXA: 45_load_store_transfer_incdec.md R208. -/
def execTxa (s : State) : Host.Outcome State Fault Refusal := .next (finish .txa false (setZN s.x (s.setA s.x)))

/-- TYA: 45_load_store_transfer_incdec.md R209. -/
def execTya (s : State) : Host.Outcome State Fault Refusal := .next (finish .tya false (setZN s.y (s.setA s.y)))

/-- TSX; the stack is not accessed: 45_load_store_transfer_incdec.md R210. -/
def execTsx (s : State) : Host.Outcome State Fault Refusal := .next (finish .tsx false (setZN s.s (s.setX s.s)))

/-- TXS, the one transfer that writes no flag: 45_load_store_transfer_incdec.md R211. -/
def execTxs (s : State) : Host.Outcome State Fault Refusal := .next (finish .txs false (s.setS s.x))

/-- INC: 45_load_store_transfer_incdec.md R212. -/
def execInc (m : MemMode) (s : State) : Host.Outcome State Fault Refusal := .next (modifyMem .inc m (.inc m) s)

/-- DEC: 45_load_store_transfer_incdec.md R213. -/
def execDec (m : MemMode) (s : State) : Host.Outcome State Fault Refusal := .next (modifyMem .dec m (.dec m) s)

/-- INX: 45_load_store_transfer_incdec.md R214. -/
def execInx (s : State) : Host.Outcome State Fault Refusal := .next (aluToReg .inc s.x State.setX .inx s)

/-- INY: 45_load_store_transfer_incdec.md R215. -/
def execIny (s : State) : Host.Outcome State Fault Refusal := .next (aluToReg .inc s.y State.setY .iny s)

/-- DEX: 45_load_store_transfer_incdec.md R216. -/
def execDex (s : State) : Host.Outcome State Fault Refusal := .next (aluToReg .dec s.x State.setX .dex s)

/-- DEY: 45_load_store_transfer_incdec.md R217. -/
def execDey (s : State) : Host.Outcome State Fault Refusal := .next (aluToReg .dec s.y State.setY .dey s)

end Sys2Proof.Machine
end

