-- ==== Sys2Proof/Machine/Logic.lean ====
section
/-! DEFINITION. Logic instructions and BIT: 42_logic_bit.md. -/

namespace Sys2Proof.Machine

/-- ORA: 42_logic_bit.md R170. -/
def execOra (o : Source) (s : State) : Host.Outcome State Fault Refusal := .next (aluToA .ora o (.ora o) s)

/-- AND: 42_logic_bit.md R171. -/
def execAnd (o : Source) (s : State) : Host.Outcome State Fault Refusal := .next (aluToA .and o (.and o) s)

/-- EOR: 42_logic_bit.md R172. -/
def execEor (o : Source) (s : State) : Host.Outcome State Fault Refusal := .next (aluToA .eor o (.eor o) s)

/-- BIT; `a` is not written: 42_logic_bit.md R173. -/
def execBit (m : MemMode) (s : State) : Host.Outcome State Fault Refusal := .next (aluTest .bit s.a (.memory m) (.bit m) s)

end Sys2Proof.Machine
end

