-- ==== Sys2Proof/Machine/Ppu.lean ====
section
/-! DEFINITION. The port operations and `fineYIncrement` as rows of the opcode table: 49_ppu_vt.md. The condition on `w` is the trigger of a row and
stands in `decodeCall` (log 12). -/

namespace Sys2Proof.Machine

/-- Write `$2000`: 49_ppu_vt.md R291. -/
def execPpuctrlWrite (d : Byte) (s : State) : Host.Outcome State Fault Refusal := .next (writeCtrl d s)

/-- Read `$2002`; the byte goes to the caller: 49_ppu_vt.md R292. -/
def execPpustatusRead (s : State) : Host.Outcome State Fault Refusal := .next (callRead (readStatus s))

/-- First write of `$2005`: 49_ppu_vt.md R293. -/
def execPpuscrollWriteFirst (d : Byte) (s : State) : Host.Outcome State Fault Refusal := .next (writeScrollFirst d s)

/-- Second write of `$2005`: 49_ppu_vt.md R294. -/
def execPpuscrollWriteSecond (d : Byte) (s : State) : Host.Outcome State Fault Refusal := .next (writeScrollSecond d s)

/-- First write of `$2006`: 49_ppu_vt.md R295. -/
def execPpuaddrWriteFirst (d : Byte) (s : State) : Host.Outcome State Fault Refusal := .next (writeAddrFirst d s)

/-- Second write of `$2006`: 49_ppu_vt.md R296. -/
def execPpuaddrWriteSecond (d : Byte) (s : State) : Host.Outcome State Fault Refusal := .next (writeAddrSecond d s)

/-- Read `$2007`; the byte goes to the caller: 49_ppu_vt.md R298. -/
def execPpudataRead (s : State) : Host.Outcome State Fault Refusal := .next (callRead (readData s))

/-- Write `$2007`: 49_ppu_vt.md R299. -/
def execPpudataWrite (d : Byte) (s : State) : Host.Outcome State Fault Refusal := .next (writeData d s)

/-- `fineYIncrement`: 49_ppu_vt.md R300. -/
def execFineYIncrement (s : State) : Host.Outcome State Fault Refusal := .next (fineYIncrement s)

end Sys2Proof.Machine
end

