-- ==== Sys2Proof/Machine/Shift.lean ====
section
/-! DEFINITION. Shift and rotate instructions: 43_shift_rotate.md. -/

namespace Sys2Proof.Machine

/-- ASL: 43_shift_rotate.md R181. -/
def execAsl (o : Place) (s : State) : Host.Outcome State Fault Refusal := .next (modify .asl o (.asl o) s)

/-- LSR: 43_shift_rotate.md R182. -/
def execLsr (o : Place) (s : State) : Host.Outcome State Fault Refusal := .next (modify .lsr o (.lsr o) s)

/-- ROL: 43_shift_rotate.md R183. -/
def execRol (o : Place) (s : State) : Host.Outcome State Fault Refusal := .next (modify .rol o (.rol o) s)

/-- ROR: 43_shift_rotate.md R184. -/
def execRor (o : Place) (s : State) : Host.Outcome State Fault Refusal := .next (modify .ror o (.ror o) s)

end Sys2Proof.Machine
end

