-- ==== Sys2Proof/Machine/Stack.lean ====
section
/-! DEFINITION. Stack instructions, flag instructions and NOP: 47_stack_flags.md. -/

namespace Sys2Proof.Machine

/-- PHA: 47_stack_flags.md R250. -/
def execPha (s : State) : Host.Outcome State Fault Refusal := .next (finish .pha false (push s.a s))

/-- PHP pushes the live break flag: 47_stack_flags.md R251. -/
def execPhp (s : State) : Host.Outcome State Fault Refusal := .next (finish .php false (push (pack s.ps s.ps.b) s))

/-- PLA sets `z` and `n`: 47_stack_flags.md R252. -/
def execPla (s : State) : Host.Outcome State Fault Refusal :=
  let p := pull s
  .next (finish .pla false (setZN p.1 (p.2.setA p.1)))

/-- PLP fixes the break flag to 0: 47_stack_flags.md R253. -/
def execPlp (s : State) : Host.Outcome State Fault Refusal :=
  let p := pull s
  .next (finish .plp false (p.2.setPs (unpack p.1 false)))

/-- CLC: 47_stack_flags.md R255. -/
def execClc (s : State) : Host.Outcome State Fault Refusal := .next (finish .clc false (s.setPs { s.ps with c := false }))

/-- SEC: 47_stack_flags.md R256. -/
def execSec (s : State) : Host.Outcome State Fault Refusal := .next (finish .sec false (s.setPs { s.ps with c := true }))

/-- CLI: 47_stack_flags.md R257. -/
def execCli (s : State) : Host.Outcome State Fault Refusal := .next (finish .cli false (s.setPs { s.ps with i := false }))

/-- SEI: 47_stack_flags.md R258. -/
def execSei (s : State) : Host.Outcome State Fault Refusal := .next (finish .sei false (s.setPs { s.ps with i := true }))

/-- CLV: 47_stack_flags.md R259. -/
def execClv (s : State) : Host.Outcome State Fault Refusal := .next (finish .clv false (s.setPs { s.ps with vf := false }))

/-- CLD: 47_stack_flags.md R260. -/
def execCld (s : State) : Host.Outcome State Fault Refusal := .next (finish .cld false (s.setPs { s.ps with d := false }))

/-- SED: 47_stack_flags.md R261. -/
def execSed (s : State) : Host.Outcome State Fault Refusal := .next (finish .sed false (s.setPs { s.ps with d := true }))

/-- NOP: 47_stack_flags.md R262. -/
def execNop (s : State) : Host.Outcome State Fault Refusal := .next (finish .nop false s)

end Sys2Proof.Machine
end

