-- ==== Sys2Proof/Machine/Undefined.lean ====
section
/-! DEFINITION. The 105 undefined opcodes (30_encoding.md R92). -/

namespace Sys2Proof.Machine

/-- An undefined opcode: the step has moved `pc` past the one byte; nothing else changes and 0 cycles are returned
(30_encoding.md R92). -/
def undefinedNop (s : State) : Host.Outcome State Fault Refusal := .next (s.setCycles 0)

/-- Opcode 0x02: 30_encoding.md R92. -/
def execUndefined02 (s : State) : Host.Outcome State Fault Refusal := undefinedNop s

/-- Opcode 0x03: 30_encoding.md R92. -/
def execUndefined03 (s : State) : Host.Outcome State Fault Refusal := undefinedNop s

/-- Opcode 0x04: 30_encoding.md R92. -/
def execUndefined04 (s : State) : Host.Outcome State Fault Refusal := undefinedNop s

/-- Opcode 0x07: 30_encoding.md R92. -/
def execUndefined07 (s : State) : Host.Outcome State Fault Refusal := undefinedNop s

/-- Opcode 0x0B: 30_encoding.md R92. -/
def execUndefined0B (s : State) : Host.Outcome State Fault Refusal := undefinedNop s

/-- Opcode 0x0C: 30_encoding.md R92. -/
def execUndefined0C (s : State) : Host.Outcome State Fault Refusal := undefinedNop s

/-- Opcode 0x0F: 30_encoding.md R92. -/
def execUndefined0F (s : State) : Host.Outcome State Fault Refusal := undefinedNop s

/-- Opcode 0x12: 30_encoding.md R92. -/
def execUndefined12 (s : State) : Host.Outcome State Fault Refusal := undefinedNop s

/-- Opcode 0x13: 30_encoding.md R92. -/
def execUndefined13 (s : State) : Host.Outcome State Fault Refusal := undefinedNop s

/-- Opcode 0x14: 30_encoding.md R92. -/
def execUndefined14 (s : State) : Host.Outcome State Fault Refusal := undefinedNop s

/-- Opcode 0x17: 30_encoding.md R92. -/
def execUndefined17 (s : State) : Host.Outcome State Fault Refusal := undefinedNop s

/-- Opcode 0x1A: 30_encoding.md R92. -/
def execUndefined1A (s : State) : Host.Outcome State Fault Refusal := undefinedNop s

/-- Opcode 0x1B: 30_encoding.md R92. -/
def execUndefined1B (s : State) : Host.Outcome State Fault Refusal := undefinedNop s

/-- Opcode 0x1C: 30_encoding.md R92. -/
def execUndefined1C (s : State) : Host.Outcome State Fault Refusal := undefinedNop s

/-- Opcode 0x1F: 30_encoding.md R92. -/
def execUndefined1F (s : State) : Host.Outcome State Fault Refusal := undefinedNop s

/-- Opcode 0x22: 30_encoding.md R92. -/
def execUndefined22 (s : State) : Host.Outcome State Fault Refusal := undefinedNop s

/-- Opcode 0x23: 30_encoding.md R92. -/
def execUndefined23 (s : State) : Host.Outcome State Fault Refusal := undefinedNop s

/-- Opcode 0x27: 30_encoding.md R92. -/
def execUndefined27 (s : State) : Host.Outcome State Fault Refusal := undefinedNop s

/-- Opcode 0x2B: 30_encoding.md R92. -/
def execUndefined2B (s : State) : Host.Outcome State Fault Refusal := undefinedNop s

/-- Opcode 0x2F: 30_encoding.md R92. -/
def execUndefined2F (s : State) : Host.Outcome State Fault Refusal := undefinedNop s

/-- Opcode 0x32: 30_encoding.md R92. -/
def execUndefined32 (s : State) : Host.Outcome State Fault Refusal := undefinedNop s

/-- Opcode 0x33: 30_encoding.md R92. -/
def execUndefined33 (s : State) : Host.Outcome State Fault Refusal := undefinedNop s

/-- Opcode 0x34: 30_encoding.md R92. -/
def execUndefined34 (s : State) : Host.Outcome State Fault Refusal := undefinedNop s

/-- Opcode 0x37: 30_encoding.md R92. -/
def execUndefined37 (s : State) : Host.Outcome State Fault Refusal := undefinedNop s

/-- Opcode 0x3A: 30_encoding.md R92. -/
def execUndefined3A (s : State) : Host.Outcome State Fault Refusal := undefinedNop s

/-- Opcode 0x3B: 30_encoding.md R92. -/
def execUndefined3B (s : State) : Host.Outcome State Fault Refusal := undefinedNop s

/-- Opcode 0x3C: 30_encoding.md R92. -/
def execUndefined3C (s : State) : Host.Outcome State Fault Refusal := undefinedNop s

/-- Opcode 0x3F: 30_encoding.md R92. -/
def execUndefined3F (s : State) : Host.Outcome State Fault Refusal := undefinedNop s

/-- Opcode 0x42: 30_encoding.md R92. -/
def execUndefined42 (s : State) : Host.Outcome State Fault Refusal := undefinedNop s

/-- Opcode 0x43: 30_encoding.md R92. -/
def execUndefined43 (s : State) : Host.Outcome State Fault Refusal := undefinedNop s

/-- Opcode 0x44: 30_encoding.md R92. -/
def execUndefined44 (s : State) : Host.Outcome State Fault Refusal := undefinedNop s

/-- Opcode 0x47: 30_encoding.md R92. -/
def execUndefined47 (s : State) : Host.Outcome State Fault Refusal := undefinedNop s

/-- Opcode 0x4B: 30_encoding.md R92. -/
def execUndefined4B (s : State) : Host.Outcome State Fault Refusal := undefinedNop s

/-- Opcode 0x4F: 30_encoding.md R92. -/
def execUndefined4F (s : State) : Host.Outcome State Fault Refusal := undefinedNop s

/-- Opcode 0x52: 30_encoding.md R92. -/
def execUndefined52 (s : State) : Host.Outcome State Fault Refusal := undefinedNop s

/-- Opcode 0x53: 30_encoding.md R92. -/
def execUndefined53 (s : State) : Host.Outcome State Fault Refusal := undefinedNop s

/-- Opcode 0x54: 30_encoding.md R92. -/
def execUndefined54 (s : State) : Host.Outcome State Fault Refusal := undefinedNop s

/-- Opcode 0x57: 30_encoding.md R92. -/
def execUndefined57 (s : State) : Host.Outcome State Fault Refusal := undefinedNop s

/-- Opcode 0x5A: 30_encoding.md R92. -/
def execUndefined5A (s : State) : Host.Outcome State Fault Refusal := undefinedNop s

/-- Opcode 0x5B: 30_encoding.md R92. -/
def execUndefined5B (s : State) : Host.Outcome State Fault Refusal := undefinedNop s

/-- Opcode 0x5C: 30_encoding.md R92. -/
def execUndefined5C (s : State) : Host.Outcome State Fault Refusal := undefinedNop s

/-- Opcode 0x5F: 30_encoding.md R92. -/
def execUndefined5F (s : State) : Host.Outcome State Fault Refusal := undefinedNop s

/-- Opcode 0x62: 30_encoding.md R92. -/
def execUndefined62 (s : State) : Host.Outcome State Fault Refusal := undefinedNop s

/-- Opcode 0x63: 30_encoding.md R92. -/
def execUndefined63 (s : State) : Host.Outcome State Fault Refusal := undefinedNop s

/-- Opcode 0x64: 30_encoding.md R92. -/
def execUndefined64 (s : State) : Host.Outcome State Fault Refusal := undefinedNop s

/-- Opcode 0x67: 30_encoding.md R92. -/
def execUndefined67 (s : State) : Host.Outcome State Fault Refusal := undefinedNop s

/-- Opcode 0x6B: 30_encoding.md R92. -/
def execUndefined6B (s : State) : Host.Outcome State Fault Refusal := undefinedNop s

/-- Opcode 0x6F: 30_encoding.md R92. -/
def execUndefined6F (s : State) : Host.Outcome State Fault Refusal := undefinedNop s

/-- Opcode 0x72: 30_encoding.md R92. -/
def execUndefined72 (s : State) : Host.Outcome State Fault Refusal := undefinedNop s

/-- Opcode 0x73: 30_encoding.md R92. -/
def execUndefined73 (s : State) : Host.Outcome State Fault Refusal := undefinedNop s

/-- Opcode 0x74: 30_encoding.md R92. -/
def execUndefined74 (s : State) : Host.Outcome State Fault Refusal := undefinedNop s

/-- Opcode 0x77: 30_encoding.md R92. -/
def execUndefined77 (s : State) : Host.Outcome State Fault Refusal := undefinedNop s

/-- Opcode 0x7A: 30_encoding.md R92. -/
def execUndefined7A (s : State) : Host.Outcome State Fault Refusal := undefinedNop s

/-- Opcode 0x7B: 30_encoding.md R92. -/
def execUndefined7B (s : State) : Host.Outcome State Fault Refusal := undefinedNop s

/-- Opcode 0x7C: 30_encoding.md R92. -/
def execUndefined7C (s : State) : Host.Outcome State Fault Refusal := undefinedNop s

/-- Opcode 0x7F: 30_encoding.md R92. -/
def execUndefined7F (s : State) : Host.Outcome State Fault Refusal := undefinedNop s

/-- Opcode 0x80: 30_encoding.md R92. -/
def execUndefined80 (s : State) : Host.Outcome State Fault Refusal := undefinedNop s

/-- Opcode 0x82: 30_encoding.md R92. -/
def execUndefined82 (s : State) : Host.Outcome State Fault Refusal := undefinedNop s

/-- Opcode 0x83: 30_encoding.md R92. -/
def execUndefined83 (s : State) : Host.Outcome State Fault Refusal := undefinedNop s

/-- Opcode 0x87: 30_encoding.md R92. -/
def execUndefined87 (s : State) : Host.Outcome State Fault Refusal := undefinedNop s

/-- Opcode 0x89: 30_encoding.md R92. -/
def execUndefined89 (s : State) : Host.Outcome State Fault Refusal := undefinedNop s

/-- Opcode 0x8B: 30_encoding.md R92. -/
def execUndefined8B (s : State) : Host.Outcome State Fault Refusal := undefinedNop s

/-- Opcode 0x8F: 30_encoding.md R92. -/
def execUndefined8F (s : State) : Host.Outcome State Fault Refusal := undefinedNop s

/-- Opcode 0x92: 30_encoding.md R92. -/
def execUndefined92 (s : State) : Host.Outcome State Fault Refusal := undefinedNop s

/-- Opcode 0x93: 30_encoding.md R92. -/
def execUndefined93 (s : State) : Host.Outcome State Fault Refusal := undefinedNop s

/-- Opcode 0x97: 30_encoding.md R92. -/
def execUndefined97 (s : State) : Host.Outcome State Fault Refusal := undefinedNop s

/-- Opcode 0x9B: 30_encoding.md R92. -/
def execUndefined9B (s : State) : Host.Outcome State Fault Refusal := undefinedNop s

/-- Opcode 0x9C: 30_encoding.md R92. -/
def execUndefined9C (s : State) : Host.Outcome State Fault Refusal := undefinedNop s

/-- Opcode 0x9E: 30_encoding.md R92. -/
def execUndefined9E (s : State) : Host.Outcome State Fault Refusal := undefinedNop s

/-- Opcode 0x9F: 30_encoding.md R92. -/
def execUndefined9F (s : State) : Host.Outcome State Fault Refusal := undefinedNop s

/-- Opcode 0xA3: 30_encoding.md R92. -/
def execUndefinedA3 (s : State) : Host.Outcome State Fault Refusal := undefinedNop s

/-- Opcode 0xA7: 30_encoding.md R92. -/
def execUndefinedA7 (s : State) : Host.Outcome State Fault Refusal := undefinedNop s

/-- Opcode 0xAB: 30_encoding.md R92. -/
def execUndefinedAB (s : State) : Host.Outcome State Fault Refusal := undefinedNop s

/-- Opcode 0xAF: 30_encoding.md R92. -/
def execUndefinedAF (s : State) : Host.Outcome State Fault Refusal := undefinedNop s

/-- Opcode 0xB2: 30_encoding.md R92. -/
def execUndefinedB2 (s : State) : Host.Outcome State Fault Refusal := undefinedNop s

/-- Opcode 0xB3: 30_encoding.md R92. -/
def execUndefinedB3 (s : State) : Host.Outcome State Fault Refusal := undefinedNop s

/-- Opcode 0xB7: 30_encoding.md R92. -/
def execUndefinedB7 (s : State) : Host.Outcome State Fault Refusal := undefinedNop s

/-- Opcode 0xBB: 30_encoding.md R92. -/
def execUndefinedBB (s : State) : Host.Outcome State Fault Refusal := undefinedNop s

/-- Opcode 0xBF: 30_encoding.md R92. -/
def execUndefinedBF (s : State) : Host.Outcome State Fault Refusal := undefinedNop s

/-- Opcode 0xC2: 30_encoding.md R92. -/
def execUndefinedC2 (s : State) : Host.Outcome State Fault Refusal := undefinedNop s

/-- Opcode 0xC3: 30_encoding.md R92. -/
def execUndefinedC3 (s : State) : Host.Outcome State Fault Refusal := undefinedNop s

/-- Opcode 0xC7: 30_encoding.md R92. -/
def execUndefinedC7 (s : State) : Host.Outcome State Fault Refusal := undefinedNop s

/-- Opcode 0xCB: 30_encoding.md R92. -/
def execUndefinedCB (s : State) : Host.Outcome State Fault Refusal := undefinedNop s

/-- Opcode 0xCF: 30_encoding.md R92. -/
def execUndefinedCF (s : State) : Host.Outcome State Fault Refusal := undefinedNop s

/-- Opcode 0xD2: 30_encoding.md R92. -/
def execUndefinedD2 (s : State) : Host.Outcome State Fault Refusal := undefinedNop s

/-- Opcode 0xD3: 30_encoding.md R92. -/
def execUndefinedD3 (s : State) : Host.Outcome State Fault Refusal := undefinedNop s

/-- Opcode 0xD4: 30_encoding.md R92. -/
def execUndefinedD4 (s : State) : Host.Outcome State Fault Refusal := undefinedNop s

/-- Opcode 0xD7: 30_encoding.md R92. -/
def execUndefinedD7 (s : State) : Host.Outcome State Fault Refusal := undefinedNop s

/-- Opcode 0xDA: 30_encoding.md R92. -/
def execUndefinedDA (s : State) : Host.Outcome State Fault Refusal := undefinedNop s

/-- Opcode 0xDB: 30_encoding.md R92. -/
def execUndefinedDB (s : State) : Host.Outcome State Fault Refusal := undefinedNop s

/-- Opcode 0xDC: 30_encoding.md R92. -/
def execUndefinedDC (s : State) : Host.Outcome State Fault Refusal := undefinedNop s

/-- Opcode 0xDF: 30_encoding.md R92. -/
def execUndefinedDF (s : State) : Host.Outcome State Fault Refusal := undefinedNop s

/-- Opcode 0xE2: 30_encoding.md R92. -/
def execUndefinedE2 (s : State) : Host.Outcome State Fault Refusal := undefinedNop s

/-- Opcode 0xE3: 30_encoding.md R92. -/
def execUndefinedE3 (s : State) : Host.Outcome State Fault Refusal := undefinedNop s

/-- Opcode 0xE7: 30_encoding.md R92. -/
def execUndefinedE7 (s : State) : Host.Outcome State Fault Refusal := undefinedNop s

/-- Opcode 0xEB: 30_encoding.md R92. -/
def execUndefinedEB (s : State) : Host.Outcome State Fault Refusal := undefinedNop s

/-- Opcode 0xEF: 30_encoding.md R92. -/
def execUndefinedEF (s : State) : Host.Outcome State Fault Refusal := undefinedNop s

/-- Opcode 0xF2: 30_encoding.md R92. -/
def execUndefinedF2 (s : State) : Host.Outcome State Fault Refusal := undefinedNop s

/-- Opcode 0xF3: 30_encoding.md R92. -/
def execUndefinedF3 (s : State) : Host.Outcome State Fault Refusal := undefinedNop s

/-- Opcode 0xF4: 30_encoding.md R92. -/
def execUndefinedF4 (s : State) : Host.Outcome State Fault Refusal := undefinedNop s

/-- Opcode 0xF7: 30_encoding.md R92. -/
def execUndefinedF7 (s : State) : Host.Outcome State Fault Refusal := undefinedNop s

/-- Opcode 0xFA: 30_encoding.md R92. -/
def execUndefinedFA (s : State) : Host.Outcome State Fault Refusal := undefinedNop s

/-- Opcode 0xFB: 30_encoding.md R92. -/
def execUndefinedFB (s : State) : Host.Outcome State Fault Refusal := undefinedNop s

/-- Opcode 0xFC: 30_encoding.md R92. -/
def execUndefinedFC (s : State) : Host.Outcome State Fault Refusal := undefinedNop s

/-- Opcode 0xFF: 30_encoding.md R92. -/
def execUndefinedFF (s : State) : Host.Outcome State Fault Refusal := undefinedNop s

end Sys2Proof.Machine
end

