-- ==== Sys2Proof/Machine/Dispatch.lean ====
section
/-! DEFINITION. One arm for every constructor of Instr: the EXECUTING state of the engine (30_encoding.md R84). -/

namespace Sys2Proof.Machine

def exec (i : Instr) (s : State) : Host.Outcome State Fault Refusal :=
  match i with
  -- Logic instructions and BIT: 42_logic_bit.md.
  | .ora o => Sys2Proof.Machine.execOra o s
  | .and o => Sys2Proof.Machine.execAnd o s
  | .eor o => Sys2Proof.Machine.execEor o s
  | .bit m => Sys2Proof.Machine.execBit m s
  -- Shift and rotate instructions: 43_shift_rotate.md.
  | .asl o => Sys2Proof.Machine.execAsl o s
  | .lsr o => Sys2Proof.Machine.execLsr o s
  | .rol o => Sys2Proof.Machine.execRol o s
  | .ror o => Sys2Proof.Machine.execRor o s
  -- Arithmetic and compare instructions: 44_arithmetic_compare.md.
  | .adc o => Sys2Proof.Machine.execAdc o s
  | .sbc o => Sys2Proof.Machine.execSbc o s
  | .cmp o => Sys2Proof.Machine.execCmp o s
  | .cpx o => Sys2Proof.Machine.execCpx o s
  | .cpy o => Sys2Proof.Machine.execCpy o s
  -- Loads, stores, transfers, increments and decrements: 45_load_store_transfer_incdec.md.
  | .lda o => Sys2Proof.Machine.execLda o s
  | .ldx o => Sys2Proof.Machine.execLdx o s
  | .ldy o => Sys2Proof.Machine.execLdy o s
  | .sta m => Sys2Proof.Machine.execSta m s
  | .stx m => Sys2Proof.Machine.execStx m s
  | .sty m => Sys2Proof.Machine.execSty m s
  | .tax => Sys2Proof.Machine.execTax s
  | .tay => Sys2Proof.Machine.execTay s
  | .txa => Sys2Proof.Machine.execTxa s
  | .tya => Sys2Proof.Machine.execTya s
  | .tsx => Sys2Proof.Machine.execTsx s
  | .txs => Sys2Proof.Machine.execTxs s
  | .inc m => Sys2Proof.Machine.execInc m s
  | .dec m => Sys2Proof.Machine.execDec m s
  | .inx => Sys2Proof.Machine.execInx s
  | .iny => Sys2Proof.Machine.execIny s
  | .dex => Sys2Proof.Machine.execDex s
  | .dey => Sys2Proof.Machine.execDey s
  -- Branches, with their displacement byte: 46_branch.md.
  | .bcc b1 => Sys2Proof.Machine.execBcc b1 s
  | .bcs b1 => Sys2Proof.Machine.execBcs b1 s
  | .beq b1 => Sys2Proof.Machine.execBeq b1 s
  | .bmi b1 => Sys2Proof.Machine.execBmi b1 s
  | .bne b1 => Sys2Proof.Machine.execBne b1 s
  | .bpl b1 => Sys2Proof.Machine.execBpl b1 s
  | .bvc b1 => Sys2Proof.Machine.execBvc b1 s
  | .bvs b1 => Sys2Proof.Machine.execBvs b1 s
  -- Stack instructions, flag instructions and NOP: 47_stack_flags.md.
  | .pha => Sys2Proof.Machine.execPha s
  | .php => Sys2Proof.Machine.execPhp s
  | .pla => Sys2Proof.Machine.execPla s
  | .plp => Sys2Proof.Machine.execPlp s
  | .clc => Sys2Proof.Machine.execClc s
  | .sec => Sys2Proof.Machine.execSec s
  | .cli => Sys2Proof.Machine.execCli s
  | .sei => Sys2Proof.Machine.execSei s
  | .clv => Sys2Proof.Machine.execClv s
  | .cld => Sys2Proof.Machine.execCld s
  | .sed => Sys2Proof.Machine.execSed s
  | .nop => Sys2Proof.Machine.execNop s
  -- Control transfer: 48_control.md.
  | .jmp t => Sys2Proof.Machine.execJmp t s
  | .jsr addr => Sys2Proof.Machine.execJsr addr s
  | .rts => Sys2Proof.Machine.execRts s
  | .rti => Sys2Proof.Machine.execRti s
  | .brk => Sys2Proof.Machine.execBrk s
  -- The port operations and the scroll computation, with the byte written: 49_ppu_vt.md.
  | .ppuctrlWrite d => Sys2Proof.Machine.execPpuctrlWrite d s
  | .ppustatusRead => Sys2Proof.Machine.execPpustatusRead s
  | .ppuscrollWriteFirst d => Sys2Proof.Machine.execPpuscrollWriteFirst d s
  | .ppuscrollWriteSecond d => Sys2Proof.Machine.execPpuscrollWriteSecond d s
  | .ppuaddrWriteFirst d => Sys2Proof.Machine.execPpuaddrWriteFirst d s
  | .ppuaddrWriteSecond d => Sys2Proof.Machine.execPpuaddrWriteSecond d s
  | .ppudataRead => Sys2Proof.Machine.execPpudataRead s
  | .ppudataWrite d => Sys2Proof.Machine.execPpudataWrite d s
  | .fineYIncrement => Sys2Proof.Machine.execFineYIncrement s
  -- Interrupt requests: 60_exceptions.md.
  | .interruptBrk => Sys2Proof.Machine.execInterruptBrk s
  | .interruptIrq => Sys2Proof.Machine.execInterruptIrq s
  | .interruptReset => Sys2Proof.Machine.execInterruptReset s
  | .interruptNmi => Sys2Proof.Machine.execInterruptNmi s
  -- The 105 undefined opcodes, one-byte no-ops: 30_encoding.md R92.
  | .undefined02 => Sys2Proof.Machine.execUndefined02 s
  | .undefined03 => Sys2Proof.Machine.execUndefined03 s
  | .undefined04 => Sys2Proof.Machine.execUndefined04 s
  | .undefined07 => Sys2Proof.Machine.execUndefined07 s
  | .undefined0B => Sys2Proof.Machine.execUndefined0B s
  | .undefined0C => Sys2Proof.Machine.execUndefined0C s
  | .undefined0F => Sys2Proof.Machine.execUndefined0F s
  | .undefined12 => Sys2Proof.Machine.execUndefined12 s
  | .undefined13 => Sys2Proof.Machine.execUndefined13 s
  | .undefined14 => Sys2Proof.Machine.execUndefined14 s
  | .undefined17 => Sys2Proof.Machine.execUndefined17 s
  | .undefined1A => Sys2Proof.Machine.execUndefined1A s
  | .undefined1B => Sys2Proof.Machine.execUndefined1B s
  | .undefined1C => Sys2Proof.Machine.execUndefined1C s
  | .undefined1F => Sys2Proof.Machine.execUndefined1F s
  | .undefined22 => Sys2Proof.Machine.execUndefined22 s
  | .undefined23 => Sys2Proof.Machine.execUndefined23 s
  | .undefined27 => Sys2Proof.Machine.execUndefined27 s
  | .undefined2B => Sys2Proof.Machine.execUndefined2B s
  | .undefined2F => Sys2Proof.Machine.execUndefined2F s
  | .undefined32 => Sys2Proof.Machine.execUndefined32 s
  | .undefined33 => Sys2Proof.Machine.execUndefined33 s
  | .undefined34 => Sys2Proof.Machine.execUndefined34 s
  | .undefined37 => Sys2Proof.Machine.execUndefined37 s
  | .undefined3A => Sys2Proof.Machine.execUndefined3A s
  | .undefined3B => Sys2Proof.Machine.execUndefined3B s
  | .undefined3C => Sys2Proof.Machine.execUndefined3C s
  | .undefined3F => Sys2Proof.Machine.execUndefined3F s
  | .undefined42 => Sys2Proof.Machine.execUndefined42 s
  | .undefined43 => Sys2Proof.Machine.execUndefined43 s
  | .undefined44 => Sys2Proof.Machine.execUndefined44 s
  | .undefined47 => Sys2Proof.Machine.execUndefined47 s
  | .undefined4B => Sys2Proof.Machine.execUndefined4B s
  | .undefined4F => Sys2Proof.Machine.execUndefined4F s
  | .undefined52 => Sys2Proof.Machine.execUndefined52 s
  | .undefined53 => Sys2Proof.Machine.execUndefined53 s
  | .undefined54 => Sys2Proof.Machine.execUndefined54 s
  | .undefined57 => Sys2Proof.Machine.execUndefined57 s
  | .undefined5A => Sys2Proof.Machine.execUndefined5A s
  | .undefined5B => Sys2Proof.Machine.execUndefined5B s
  | .undefined5C => Sys2Proof.Machine.execUndefined5C s
  | .undefined5F => Sys2Proof.Machine.execUndefined5F s
  | .undefined62 => Sys2Proof.Machine.execUndefined62 s
  | .undefined63 => Sys2Proof.Machine.execUndefined63 s
  | .undefined64 => Sys2Proof.Machine.execUndefined64 s
  | .undefined67 => Sys2Proof.Machine.execUndefined67 s
  | .undefined6B => Sys2Proof.Machine.execUndefined6B s
  | .undefined6F => Sys2Proof.Machine.execUndefined6F s
  | .undefined72 => Sys2Proof.Machine.execUndefined72 s
  | .undefined73 => Sys2Proof.Machine.execUndefined73 s
  | .undefined74 => Sys2Proof.Machine.execUndefined74 s
  | .undefined77 => Sys2Proof.Machine.execUndefined77 s
  | .undefined7A => Sys2Proof.Machine.execUndefined7A s
  | .undefined7B => Sys2Proof.Machine.execUndefined7B s
  | .undefined7C => Sys2Proof.Machine.execUndefined7C s
  | .undefined7F => Sys2Proof.Machine.execUndefined7F s
  | .undefined80 => Sys2Proof.Machine.execUndefined80 s
  | .undefined82 => Sys2Proof.Machine.execUndefined82 s
  | .undefined83 => Sys2Proof.Machine.execUndefined83 s
  | .undefined87 => Sys2Proof.Machine.execUndefined87 s
  | .undefined89 => Sys2Proof.Machine.execUndefined89 s
  | .undefined8B => Sys2Proof.Machine.execUndefined8B s
  | .undefined8F => Sys2Proof.Machine.execUndefined8F s
  | .undefined92 => Sys2Proof.Machine.execUndefined92 s
  | .undefined93 => Sys2Proof.Machine.execUndefined93 s
  | .undefined97 => Sys2Proof.Machine.execUndefined97 s
  | .undefined9B => Sys2Proof.Machine.execUndefined9B s
  | .undefined9C => Sys2Proof.Machine.execUndefined9C s
  | .undefined9E => Sys2Proof.Machine.execUndefined9E s
  | .undefined9F => Sys2Proof.Machine.execUndefined9F s
  | .undefinedA3 => Sys2Proof.Machine.execUndefinedA3 s
  | .undefinedA7 => Sys2Proof.Machine.execUndefinedA7 s
  | .undefinedAB => Sys2Proof.Machine.execUndefinedAB s
  | .undefinedAF => Sys2Proof.Machine.execUndefinedAF s
  | .undefinedB2 => Sys2Proof.Machine.execUndefinedB2 s
  | .undefinedB3 => Sys2Proof.Machine.execUndefinedB3 s
  | .undefinedB7 => Sys2Proof.Machine.execUndefinedB7 s
  | .undefinedBB => Sys2Proof.Machine.execUndefinedBB s
  | .undefinedBF => Sys2Proof.Machine.execUndefinedBF s
  | .undefinedC2 => Sys2Proof.Machine.execUndefinedC2 s
  | .undefinedC3 => Sys2Proof.Machine.execUndefinedC3 s
  | .undefinedC7 => Sys2Proof.Machine.execUndefinedC7 s
  | .undefinedCB => Sys2Proof.Machine.execUndefinedCB s
  | .undefinedCF => Sys2Proof.Machine.execUndefinedCF s
  | .undefinedD2 => Sys2Proof.Machine.execUndefinedD2 s
  | .undefinedD3 => Sys2Proof.Machine.execUndefinedD3 s
  | .undefinedD4 => Sys2Proof.Machine.execUndefinedD4 s
  | .undefinedD7 => Sys2Proof.Machine.execUndefinedD7 s
  | .undefinedDA => Sys2Proof.Machine.execUndefinedDA s
  | .undefinedDB => Sys2Proof.Machine.execUndefinedDB s
  | .undefinedDC => Sys2Proof.Machine.execUndefinedDC s
  | .undefinedDF => Sys2Proof.Machine.execUndefinedDF s
  | .undefinedE2 => Sys2Proof.Machine.execUndefinedE2 s
  | .undefinedE3 => Sys2Proof.Machine.execUndefinedE3 s
  | .undefinedE7 => Sys2Proof.Machine.execUndefinedE7 s
  | .undefinedEB => Sys2Proof.Machine.execUndefinedEB s
  | .undefinedEF => Sys2Proof.Machine.execUndefinedEF s
  | .undefinedF2 => Sys2Proof.Machine.execUndefinedF2 s
  | .undefinedF3 => Sys2Proof.Machine.execUndefinedF3 s
  | .undefinedF4 => Sys2Proof.Machine.execUndefinedF4 s
  | .undefinedF7 => Sys2Proof.Machine.execUndefinedF7 s
  | .undefinedFA => Sys2Proof.Machine.execUndefinedFA s
  | .undefinedFB => Sys2Proof.Machine.execUndefinedFB s
  | .undefinedFC => Sys2Proof.Machine.execUndefinedFC s
  | .undefinedFF => Sys2Proof.Machine.execUndefinedFF s

end Sys2Proof.Machine
end

