-- ==== Sys2Proof/Machine/Fetch.lean ====
section
/-! DEFINITION. Fetching an instruction (30_encoding.md R84), the calls the opcode table has no row for, and the placing of a table word
for the next step. -/

namespace Sys2Proof.Machine

/-- FETCH and DISPATCH: the opcode at `pc`, then as many operand bytes as its format has, in ascending address order; `pc` becomes
`pc_next` (30_encoding.md R84; 20_memory.md R60). A fetch from the ports has their side effects (20_memory.md R59). -/
def fetch (s : State) : Instr × State :=
  let p0 := s.pc
  let op := memRead p0 s
  let e := entryOf op.1
  match e.fmt with
  | .f1 => (e.build 0 0, op.2.setPc (p0 + 1))
  | .f2 =>
    let b1 := memRead (p0 + 1) op.2
    (e.build b1.1 0, b1.2.setPc (p0 + 2))
  | .f3 =>
    let b1 := memRead (p0 + 1) op.2
    let b2 := memRead (p0 + 2) b1.2
    (e.build b1.1 b2.1, b2.2.setPc (p0 + 3))

/-- A call that `decodeCall` finds no row of the table for: a read of a write-only or out-of-scope port, a write of `$2002` or of an
out-of-scope port (49_ppu_vt.md R302, R303), the vblank flag (R301), and the host's power-on and reset functions
(70_reset_and_hazards.md R350 to R352). The first three are never given to it: they have rows, or are the CPU's. -/
def callNoRow (t : Turn) (s : State) : State :=
  match t with
  | .cpu | .interrupt _ | .fineYIncrement => s
  | .portRead off => callRead (portRead (portOf off.toNat) s)
  | .portWrite off d => portWrite (portOf off.toNat) d s
  | .setVblank => setVblank s
  | .powerResetState isReset => powerResetState isReset s
  | .cpuPowerOn init => cpuPowerOn init s

/-- Load a byte of a program from outside the machine: only storage takes it. Log 12. -/
def loadByte (addr : Word) (v : Byte) (s : State) : State :=
  match regionOf addr with
  | .cell k => s.setCpuMem (s.cpuMem.set k v)
  | .port _ => s
  | .oamDma => s

/-- The three bytes of the longest instruction at this address are storage. -/
def storable (addr : Word) (s : State) : Bool :=
  (peek addr s).isSome && (peek (addr + 1) s).isSome && (peek (addr + 2) s).isSome

/-- The state with its `pc` at storage that can hold an instruction: unchanged unless the `pc` points at the ports or OAMDMA. Log 12. -/
def fetchHome (s : State) : State := if storable s.pc s then s else s.setPc 0x0200

/-- Load the bytes from this address up. -/
def loadBytes (addr : Word) (bs : List Byte) (s : State) : State :=
  match bs with
  | [] => s
  | b :: bs => loadBytes (addr + 1) bs (loadByte addr b s)

/-- Place a table word so that the very next step runs it: a port word as the next call, with the toggle its row needs; an instruction at
`pc`, as the CPU's turn. Log 12. -/
def placeWord (nbits w : Nat) (s : State) : State :=
  if isPortWord nbits w then
    (s.setPpu { s.ppu with w := false }).setTurns (tableCall (BitVec.ofNat 13 w) :: s.turns)
  else
    let s := fetchHome s
    (loadBytes s.pc (tableBytes nbits w) s).setTurns (.cpu :: s.turns)

end Sys2Proof.Machine
end

