-- ==== Sys2Proof/Machine/Step.lean ====
section
/-! DEFINITION. One turn of the block (00_scope.md R5): the next agent's call, or the CPU's `step()` when no call is pending. -/

namespace Sys2Proof.Machine

/-- The CPU's `step()`: FETCH and DISPATCH, then EXECUTING (30_encoding.md R84). -/
def cpuStep (s : State) : Host.Outcome State Fault Refusal := exec (fetch s).1 (fetch s).2

/-- An agent's call: the row of the table it stands for, or what it does without one. -/
def runCall (t : Turn) (s : State) : Host.Outcome State Fault Refusal :=
  match decodeCall t s.ppu.w with
  | some i => exec i s
  | none => .next (callNoRow t s)

/-- One turn: interrupts and the other calls land between two CPU steps, never inside one (60_exceptions.md R321, R329). -/
def step (s : State) : Host.Outcome State Fault Refusal :=
  match s.turns with
  | [] => cpuStep s
  | .cpu :: ts => cpuStep (s.setTurns ts)
  | t :: ts => runCall t (s.setTurns ts)

/-- The state whose very next step fetches and runs the instruction of a table word. Log 12. -/
def State.withFetchWord (s : State) (nbits w : Nat) : State := placeWord nbits w s

end Sys2Proof.Machine
end

