-- ==== Sys2Proof/Machine/Debug.lean ====
section
/-! DEFINITION. Debug and introspection: read-only views from outside that change no state (60_exceptions.md R337). The text is no part of
the machine (93_implementation_defined.md U20); the syntax is 30_encoding.md R95. Log 15. -/

namespace Sys2Proof.Machine

/-- The accessor `flags`: `Pack(b)` (60_exceptions.md R337). -/
def flags (s : State) : Byte := pack s.ps s.ps.b

def hexDigits : List String :=
  ["0", "1", "2", "3", "4", "5", "6", "7", "8", "9", "A", "B", "C", "D", "E", "F"]

def hexDigit (n : Nat) : String := hexDigits.getD (n % 16) ""

def hexByte (b : Byte) : String := hexDigit (b.toNat / 16) ++ hexDigit b.toNat

def hexWord (w : Word) : String := hexByte (hi w) ++ hexByte (lo w)

/-- The operand text of a memory mode: 30_encoding.md R95. -/
def memText : MemMode → String
  | .zeroPage b1 => "$" ++ hexByte b1
  | .zeroPageX b1 => "$" ++ hexByte b1 ++ ",X"
  | .zeroPageY b1 => "$" ++ hexByte b1 ++ ",Y"
  | .absolute w => "$" ++ hexWord w
  | .absoluteX w => "$" ++ hexWord w ++ ",X"
  | .absoluteY w => "$" ++ hexWord w ++ ",Y"
  | .zpXIndirect b1 => "($" ++ hexByte b1 ++ ",X)"
  | .zpIndirectY b1 => "($" ++ hexByte b1 ++ "),Y"

def sourceText : Source → String
  | .immediate b1 => "#$" ++ hexByte b1
  | .memory m => memText m

def placeText : Place → String
  | .accumulator => "A"
  | .memory m => memText m

def targetText : Target → String
  | .absolute w => "$" ++ hexWord w
  | .indirect w => "($" ++ hexWord w ++ ")"

/-- `disassemble()`: the mnemonic and operand of an instruction at address `p0`; an undefined opcode shows its byte, and an operation that
is called has no text. -/
def disassemble (p0 : Word) : Instr → String
  | .ora o => "ORA " ++ sourceText o
  | .and o => "AND " ++ sourceText o
  | .eor o => "EOR " ++ sourceText o
  | .bit m => "BIT " ++ memText m
  | .asl o => "ASL " ++ placeText o
  | .lsr o => "LSR " ++ placeText o
  | .rol o => "ROL " ++ placeText o
  | .ror o => "ROR " ++ placeText o
  | .adc o => "ADC " ++ sourceText o
  | .sbc o => "SBC " ++ sourceText o
  | .cmp o => "CMP " ++ sourceText o
  | .cpx o => "CPX " ++ sourceText o
  | .cpy o => "CPY " ++ sourceText o
  | .lda o => "LDA " ++ sourceText o
  | .ldx o => "LDX " ++ sourceText o
  | .ldy o => "LDY " ++ sourceText o
  | .sta m => "STA " ++ memText m
  | .stx m => "STX " ++ memText m
  | .sty m => "STY " ++ memText m
  | .tax => "TAX"
  | .tay => "TAY"
  | .txa => "TXA"
  | .tya => "TYA"
  | .tsx => "TSX"
  | .txs => "TXS"
  | .inc m => "INC " ++ memText m
  | .dec m => "DEC " ++ memText m
  | .inx => "INX"
  | .iny => "INY"
  | .dex => "DEX"
  | .dey => "DEY"
  | .bcc b1 => "BCC " ++ "$" ++ hexWord (p0 + 2 + sext16 b1)
  | .bcs b1 => "BCS " ++ "$" ++ hexWord (p0 + 2 + sext16 b1)
  | .beq b1 => "BEQ " ++ "$" ++ hexWord (p0 + 2 + sext16 b1)
  | .bmi b1 => "BMI " ++ "$" ++ hexWord (p0 + 2 + sext16 b1)
  | .bne b1 => "BNE " ++ "$" ++ hexWord (p0 + 2 + sext16 b1)
  | .bpl b1 => "BPL " ++ "$" ++ hexWord (p0 + 2 + sext16 b1)
  | .bvc b1 => "BVC " ++ "$" ++ hexWord (p0 + 2 + sext16 b1)
  | .bvs b1 => "BVS " ++ "$" ++ hexWord (p0 + 2 + sext16 b1)
  | .pha => "PHA"
  | .php => "PHP"
  | .pla => "PLA"
  | .plp => "PLP"
  | .clc => "CLC"
  | .sec => "SEC"
  | .cli => "CLI"
  | .sei => "SEI"
  | .clv => "CLV"
  | .cld => "CLD"
  | .sed => "SED"
  | .nop => "NOP"
  | .jmp t => "JMP " ++ targetText t
  | .jsr addr => "JSR " ++ "$" ++ hexWord addr
  | .rts => "RTS"
  | .rti => "RTI"
  | .brk => "BRK"
  | .undefined02 => "??? $" ++ hexByte 0x02
  | .undefined03 => "??? $" ++ hexByte 0x03
  | .undefined04 => "??? $" ++ hexByte 0x04
  | .undefined07 => "??? $" ++ hexByte 0x07
  | .undefined0B => "??? $" ++ hexByte 0x0B
  | .undefined0C => "??? $" ++ hexByte 0x0C
  | .undefined0F => "??? $" ++ hexByte 0x0F
  | .undefined12 => "??? $" ++ hexByte 0x12
  | .undefined13 => "??? $" ++ hexByte 0x13
  | .undefined14 => "??? $" ++ hexByte 0x14
  | .undefined17 => "??? $" ++ hexByte 0x17
  | .undefined1A => "??? $" ++ hexByte 0x1A
  | .undefined1B => "??? $" ++ hexByte 0x1B
  | .undefined1C => "??? $" ++ hexByte 0x1C
  | .undefined1F => "??? $" ++ hexByte 0x1F
  | .undefined22 => "??? $" ++ hexByte 0x22
  | .undefined23 => "??? $" ++ hexByte 0x23
  | .undefined27 => "??? $" ++ hexByte 0x27
  | .undefined2B => "??? $" ++ hexByte 0x2B
  | .undefined2F => "??? $" ++ hexByte 0x2F
  | .undefined32 => "??? $" ++ hexByte 0x32
  | .undefined33 => "??? $" ++ hexByte 0x33
  | .undefined34 => "??? $" ++ hexByte 0x34
  | .undefined37 => "??? $" ++ hexByte 0x37
  | .undefined3A => "??? $" ++ hexByte 0x3A
  | .undefined3B => "??? $" ++ hexByte 0x3B
  | .undefined3C => "??? $" ++ hexByte 0x3C
  | .undefined3F => "??? $" ++ hexByte 0x3F
  | .undefined42 => "??? $" ++ hexByte 0x42
  | .undefined43 => "??? $" ++ hexByte 0x43
  | .undefined44 => "??? $" ++ hexByte 0x44
  | .undefined47 => "??? $" ++ hexByte 0x47
  | .undefined4B => "??? $" ++ hexByte 0x4B
  | .undefined4F => "??? $" ++ hexByte 0x4F
  | .undefined52 => "??? $" ++ hexByte 0x52
  | .undefined53 => "??? $" ++ hexByte 0x53
  | .undefined54 => "??? $" ++ hexByte 0x54
  | .undefined57 => "??? $" ++ hexByte 0x57
  | .undefined5A => "??? $" ++ hexByte 0x5A
  | .undefined5B => "??? $" ++ hexByte 0x5B
  | .undefined5C => "??? $" ++ hexByte 0x5C
  | .undefined5F => "??? $" ++ hexByte 0x5F
  | .undefined62 => "??? $" ++ hexByte 0x62
  | .undefined63 => "??? $" ++ hexByte 0x63
  | .undefined64 => "??? $" ++ hexByte 0x64
  | .undefined67 => "??? $" ++ hexByte 0x67
  | .undefined6B => "??? $" ++ hexByte 0x6B
  | .undefined6F => "??? $" ++ hexByte 0x6F
  | .undefined72 => "??? $" ++ hexByte 0x72
  | .undefined73 => "??? $" ++ hexByte 0x73
  | .undefined74 => "??? $" ++ hexByte 0x74
  | .undefined77 => "??? $" ++ hexByte 0x77
  | .undefined7A => "??? $" ++ hexByte 0x7A
  | .undefined7B => "??? $" ++ hexByte 0x7B
  | .undefined7C => "??? $" ++ hexByte 0x7C
  | .undefined7F => "??? $" ++ hexByte 0x7F
  | .undefined80 => "??? $" ++ hexByte 0x80
  | .undefined82 => "??? $" ++ hexByte 0x82
  | .undefined83 => "??? $" ++ hexByte 0x83
  | .undefined87 => "??? $" ++ hexByte 0x87
  | .undefined89 => "??? $" ++ hexByte 0x89
  | .undefined8B => "??? $" ++ hexByte 0x8B
  | .undefined8F => "??? $" ++ hexByte 0x8F
  | .undefined92 => "??? $" ++ hexByte 0x92
  | .undefined93 => "??? $" ++ hexByte 0x93
  | .undefined97 => "??? $" ++ hexByte 0x97
  | .undefined9B => "??? $" ++ hexByte 0x9B
  | .undefined9C => "??? $" ++ hexByte 0x9C
  | .undefined9E => "??? $" ++ hexByte 0x9E
  | .undefined9F => "??? $" ++ hexByte 0x9F
  | .undefinedA3 => "??? $" ++ hexByte 0xA3
  | .undefinedA7 => "??? $" ++ hexByte 0xA7
  | .undefinedAB => "??? $" ++ hexByte 0xAB
  | .undefinedAF => "??? $" ++ hexByte 0xAF
  | .undefinedB2 => "??? $" ++ hexByte 0xB2
  | .undefinedB3 => "??? $" ++ hexByte 0xB3
  | .undefinedB7 => "??? $" ++ hexByte 0xB7
  | .undefinedBB => "??? $" ++ hexByte 0xBB
  | .undefinedBF => "??? $" ++ hexByte 0xBF
  | .undefinedC2 => "??? $" ++ hexByte 0xC2
  | .undefinedC3 => "??? $" ++ hexByte 0xC3
  | .undefinedC7 => "??? $" ++ hexByte 0xC7
  | .undefinedCB => "??? $" ++ hexByte 0xCB
  | .undefinedCF => "??? $" ++ hexByte 0xCF
  | .undefinedD2 => "??? $" ++ hexByte 0xD2
  | .undefinedD3 => "??? $" ++ hexByte 0xD3
  | .undefinedD4 => "??? $" ++ hexByte 0xD4
  | .undefinedD7 => "??? $" ++ hexByte 0xD7
  | .undefinedDA => "??? $" ++ hexByte 0xDA
  | .undefinedDB => "??? $" ++ hexByte 0xDB
  | .undefinedDC => "??? $" ++ hexByte 0xDC
  | .undefinedDF => "??? $" ++ hexByte 0xDF
  | .undefinedE2 => "??? $" ++ hexByte 0xE2
  | .undefinedE3 => "??? $" ++ hexByte 0xE3
  | .undefinedE7 => "??? $" ++ hexByte 0xE7
  | .undefinedEB => "??? $" ++ hexByte 0xEB
  | .undefinedEF => "??? $" ++ hexByte 0xEF
  | .undefinedF2 => "??? $" ++ hexByte 0xF2
  | .undefinedF3 => "??? $" ++ hexByte 0xF3
  | .undefinedF4 => "??? $" ++ hexByte 0xF4
  | .undefinedF7 => "??? $" ++ hexByte 0xF7
  | .undefinedFA => "??? $" ++ hexByte 0xFA
  | .undefinedFB => "??? $" ++ hexByte 0xFB
  | .undefinedFC => "??? $" ++ hexByte 0xFC
  | .undefinedFF => "??? $" ++ hexByte 0xFF
  | .ppuctrlWrite _ => ""
  | .ppustatusRead => ""
  | .ppuscrollWriteFirst _ => ""
  | .ppuscrollWriteSecond _ => ""
  | .ppuaddrWriteFirst _ => ""
  | .ppuaddrWriteSecond _ => ""
  | .ppudataRead => ""
  | .ppudataWrite _ => ""
  | .fineYIncrement => ""
  | .interruptBrk => ""
  | .interruptIrq => ""
  | .interruptReset => ""
  | .interruptNmi => ""

end Sys2Proof.Machine
end

