-- ==== Sys2Proof/Safety.lean ====
section
/-! DEFINITION. What the claims call a good state and a safe run. -/

namespace Sys2Proof.Machine

/-- A backing location that the CPU address map reaches (20_memory.md R55, R56, R57): RAM, or 0x4000 to 0xFFFF but OAMDMA. -/
def cpuLocation (k : Nat) : Bool := k < 0x800 || (0x4000 ≤ k && k < 0x10000 && k != 0x4014)

/-- The address map of `NT_MIRROR` stays in the 16 KB space below the palette (20_memory.md R51, R58). -/
def cfgWf (cfg : Params) : Bool := cfg.ntMap.all fun p => p.2 < 0x3F00

/-- The invariant of the block: both memories are in canonical form and list only locations that exist, and the address map is one of the
16 KB space. The widths of 10_state.md R32 and 49_ppu_vt.md R304 (4) hold by the types. -/
def State.wf (s : State) : Bool :=
  s.cpuMem.wf && s.cpuMem.all (fun c => cpuLocation c.1) && s.ppuMem.wf && s.ppuMem.all (fun c => c.1 < 0x4000) && cfgWf s.cfg

/-- `t` is `s` but for the registers of the port engine and the count of free values drawn: what a read may change (20_memory.md R59). -/
def PortsOnly (s t : State) : Prop := t = { s with ppu := t.ppu, drawn := t.drawn }

/-- A step completes: it is no fault and no refusal (30_encoding.md R85; 60_exceptions.md R320). -/
def Completes (s : State) : Prop := ∃ t, step s = .next t

end Sys2Proof.Machine
end

