-- ==== Sys2Proof/Certificates/Slice0/Obligations.lean ====
section
/-! DEFINITION. The claims about the model, from the numbered rules of the spec. Every result is stated as the whole next state:
what a claim's record update does not name is unchanged. -/

namespace Sys2Proof.Claims

open Sys2Proof.Machine

/-! ### Words the claims share -/

/-- One form of an instruction, as its rule gives it: the mode, the opcode byte, the base cycles. -/
structure Row where
  mode : Mode
  op : Byte
  base : Nat
  deriving DecidableEq, Repr

/-- The instruction has exactly the forms of the list, each with its opcode byte. -/
def HasForms {α : Type} (mk : α → Instr) (mode : α → Mode) (rows : List Row) : Prop :=
  ∀ o, ((mk o).wf = true ↔ ∃ r ∈ rows, r.mode = mode o) ∧ ∀ r ∈ rows, r.mode = mode o → (mk o).opcode = some r.op

/-- The eight forms of ORA, AND, EOR, ADC, SBC, CMP and LDA, in the order their rules list them. -/
def aluRows (imm zp zpx abs abx aby izx izy : Byte) : List Row :=
  [⟨.immediate, imm, 2⟩, ⟨.zeroPage, zp, 3⟩, ⟨.zeroPageX, zpx, 4⟩, ⟨.absolute, abs, 4⟩, ⟨.absoluteX, abx, 4⟩,
   ⟨.absoluteY, aby, 4⟩, ⟨.zpXIndirect, izx, 6⟩, ⟨.zpIndirectY, izy, 5⟩]

/-- The five forms of ASL, LSR, ROL and ROR, in the order their rules list them. -/
def shiftRows (acc zp zpx abs abx : Byte) : List Row :=
  [⟨.accumulator, acc, 2⟩, ⟨.zeroPage, zp, 5⟩, ⟨.zeroPageX, zpx, 6⟩, ⟨.absolute, abs, 6⟩, ⟨.absoluteX, abx, 7⟩]

/-- `SetZN(r)`: 00_scope.md R13. -/
def zn (r : Byte) (p : Status) : Status := { p with z := decide (r = 0), n := r.getLsbD 7 }

/-- `Pack(bflag)` by its sum: 00_scope.md R12. -/
def statusByte (p : Status) (bflag : Bool) : Byte :=
  BitVec.ofNat 8
    (p.n.toNat * 128 + p.vf.toNat * 64 + 32 + bflag.toNat * 16 + p.d.toNat * 8 + p.i.toNat * 4 + p.z.toNat * 2 + p.c.toNat)

/-- The flags a packed byte gives, with `b` as stated: 00_scope.md R12. -/
def flagsOf (p : Byte) (b : Bool) : Status :=
  { n := p.getLsbD 7, vf := p.getLsbD 6, b := b, d := p.getLsbD 3, i := p.getLsbD 2, z := p.getLsbD 1, c := p.getLsbD 0 }

/-- The signed value of a byte: 00_scope.md R9. -/
def signed (b : Byte) : Int := if b.toNat < 128 then b.toNat else (b.toNat : Int) - 256

/-- The stack location `0x0100 | s` in CPU memory: 10_state.md R21. -/
def stackCell (sp : Byte) : Nat := 0x100 + sp.toNat

/-- Two bytes as an address, low byte first: 20_memory.md R52. -/
def addr16 (l h : Byte) : Word := BitVec.ofNat 16 (h.toNat * 256 + l.toNat)

/-- The bytes of an address. -/
def lowByte (w : Word) : Byte := BitVec.ofNat 8 w.toNat

def highByte (w : Word) : Byte := BitVec.ofNat 8 (w.toNat / 256)

/-- The page-cross test on two addresses: their high bytes differ (40_addressing.md R124). -/
def pageDiffers (p q : Word) : Bool := decide (p.toNat / 256 ≠ q.toNat / 256)

/-- CPU memory with the three bytes of an interrupt frame pushed: 60_exceptions.md R324. -/
def framePushed (s : State) (pc : Word) (bflag : Bool) : Memory :=
  ((s.cpuMem.set (stackCell s.s) (highByte pc)).set (stackCell (s.s - 1)) (lowByte pc)).set (stackCell (s.s - 2))
    (statusByte s.ps bflag)

/-- An operation of the accumulator and an operand `M` that stores its result in `a` and writes `z` and `n`. -/
def AccumulatorResult (mk : Source → Instr) (rows : List Row) (f : Byte → Byte → Byte) : Prop :=
  HasForms mk Source.mode rows ∧
  ∀ r ∈ rows, ∀ o s, o.mode = r.mode →
    let q := readSource o s
    exec (mk o) s = .next
      { s with
        a := f s.a q.val, ps := zn (f s.a q.val) s.ps
        ppu := q.st.ppu, drawn := q.st.drawn, cycles := r.base + q.cross.toNat }

/-- A compare of the register `reg` with an operand `M`: nothing is stored, `c`, `z` and `n` are written. -/
def CompareResult (mk : Source → Instr) (reg : State → Byte) (rows : List Row) : Prop :=
  HasForms mk Source.mode rows ∧
  ∀ r ∈ rows, ∀ o s, o.mode = r.mode →
    let q := readSource o s
    exec (mk o) s = .next
      { s with
        ps := { zn (reg s - q.val) s.ps with c := decide (q.val.toNat ≤ (reg s).toNat) }
        ppu := q.st.ppu, drawn := q.st.drawn, cycles := r.base + q.cross.toNat }

/-- A store of the register `reg`: one write of `ea`, and nothing else but what the pointer reads do to the ports. -/
def StoreResult (mk : MemMode → Instr) (reg : State → Byte) (rows : List Row) : Prop :=
  HasForms mk MemMode.mode rows ∧
  ∀ r ∈ rows, ∀ m s, m.mode = r.mode →
    let p := resolve m s
    let w := memWrite p.ea (reg s) p.st
    exec (mk m) s = .next
      { s with
        ppu := w.ppu, drawn := w.drawn, cpuMem := w.cpuMem, ppuMem := w.ppuMem, cycles := r.base + p.cross.toNat }

/-- A read-modify-write of memory: one read of `ea`, then one write of the result `res M c`, with the flags `fl M R`. -/
def ModifyResult (mk : MemMode → Instr) (rows : List Row) (res : Byte → Bool → Byte) (fl : Byte → Byte → Status → Status) :
    Prop :=
  ∀ r ∈ rows, ∀ m s, m.mode = r.mode →
    let p := resolve m s
    let q := memRead p.ea p.st
    let R := res q.1 s.ps.c
    let w := memWrite p.ea R q.2
    exec (mk m) s = .next
      { s with
        ps := fl q.1 R s.ps
        ppu := w.ppu, drawn := w.drawn, cpuMem := w.cpuMem, ppuMem := w.ppuMem, cycles := r.base + p.cross.toNat }

/-- A shift or rotate in its five forms (43_shift_rotate.md R180). -/
def ShiftResult (mk : Place → Instr) (rows : List Row) (res : Byte → Bool → Byte) (fl : Byte → Byte → Status → Status) : Prop :=
  HasForms mk Place.mode rows ∧ ModifyResult (fun m => mk (.memory m)) rows res fl ∧
  ∀ s, exec (mk .accumulator) s = .next
    { s with a := res s.a s.ps.c, ps := fl s.a (res s.a s.ps.c) s.ps, cycles := 2 }

/-- A conditional branch: its encoding, and both cases (46_branch.md R230, R239). The `pc` of the state is `pc_next`, so `P0 + 1` is
`pc - 1`. -/
def BranchResult (mk : Byte → Instr) (op : Byte) (cond : State → Bool) : Prop :=
  (∀ b1, encode (mk b1) = [op, b1]) ∧
  ∀ b1 s,
    let target : Word := BitVec.ofInt 16 (s.pc.toNat + signed b1)
    (cond s = true →
      exec (mk b1) s = .next { s with pc := target, cycles := 3 + (pageDiffers target (s.pc - 1)).toNat }) ∧
    (cond s = false → exec (mk b1) s = .next { s with cycles := 2 })

/-- Part 1 of the undefined opcodes of 30_encoding.md R92. -/
def undefinedPart1 : List (Instr × Byte) :=
  [(.undefined02, 0x02), (.undefined03, 0x03), (.undefined04, 0x04), (.undefined07, 0x07),
   (.undefined0B, 0x0B), (.undefined0C, 0x0C), (.undefined0F, 0x0F), (.undefined12, 0x12),
   (.undefined13, 0x13), (.undefined14, 0x14), (.undefined17, 0x17), (.undefined1A, 0x1A),
   (.undefined1B, 0x1B), (.undefined1C, 0x1C), (.undefined1F, 0x1F), (.undefined22, 0x22),
   (.undefined23, 0x23), (.undefined27, 0x27), (.undefined2B, 0x2B), (.undefined2F, 0x2F),
   (.undefined32, 0x32)]

/-- Part 2 of the undefined opcodes of 30_encoding.md R92. -/
def undefinedPart2 : List (Instr × Byte) :=
  [(.undefined33, 0x33), (.undefined34, 0x34), (.undefined37, 0x37), (.undefined3A, 0x3A),
   (.undefined3B, 0x3B), (.undefined3C, 0x3C), (.undefined3F, 0x3F), (.undefined42, 0x42),
   (.undefined43, 0x43), (.undefined44, 0x44), (.undefined47, 0x47), (.undefined4B, 0x4B),
   (.undefined4F, 0x4F), (.undefined52, 0x52), (.undefined53, 0x53), (.undefined54, 0x54),
   (.undefined57, 0x57), (.undefined5A, 0x5A), (.undefined5B, 0x5B), (.undefined5C, 0x5C),
   (.undefined5F, 0x5F)]

/-- Part 3 of the undefined opcodes of 30_encoding.md R92. -/
def undefinedPart3 : List (Instr × Byte) :=
  [(.undefined62, 0x62), (.undefined63, 0x63), (.undefined64, 0x64), (.undefined67, 0x67),
   (.undefined6B, 0x6B), (.undefined6F, 0x6F), (.undefined72, 0x72), (.undefined73, 0x73),
   (.undefined74, 0x74), (.undefined77, 0x77), (.undefined7A, 0x7A), (.undefined7B, 0x7B),
   (.undefined7C, 0x7C), (.undefined7F, 0x7F), (.undefined80, 0x80), (.undefined82, 0x82),
   (.undefined83, 0x83), (.undefined87, 0x87), (.undefined89, 0x89), (.undefined8B, 0x8B),
   (.undefined8F, 0x8F)]

/-- Part 4 of the undefined opcodes of 30_encoding.md R92. -/
def undefinedPart4 : List (Instr × Byte) :=
  [(.undefined92, 0x92), (.undefined93, 0x93), (.undefined97, 0x97), (.undefined9B, 0x9B),
   (.undefined9C, 0x9C), (.undefined9E, 0x9E), (.undefined9F, 0x9F), (.undefinedA3, 0xA3),
   (.undefinedA7, 0xA7), (.undefinedAB, 0xAB), (.undefinedAF, 0xAF), (.undefinedB2, 0xB2),
   (.undefinedB3, 0xB3), (.undefinedB7, 0xB7), (.undefinedBB, 0xBB), (.undefinedBF, 0xBF),
   (.undefinedC2, 0xC2), (.undefinedC3, 0xC3), (.undefinedC7, 0xC7), (.undefinedCB, 0xCB),
   (.undefinedCF, 0xCF)]

/-- Part 5 of the undefined opcodes of 30_encoding.md R92. -/
def undefinedPart5 : List (Instr × Byte) :=
  [(.undefinedD2, 0xD2), (.undefinedD3, 0xD3), (.undefinedD4, 0xD4), (.undefinedD7, 0xD7),
   (.undefinedDA, 0xDA), (.undefinedDB, 0xDB), (.undefinedDC, 0xDC), (.undefinedDF, 0xDF),
   (.undefinedE2, 0xE2), (.undefinedE3, 0xE3), (.undefinedE7, 0xE7), (.undefinedEB, 0xEB),
   (.undefinedEF, 0xEF), (.undefinedF2, 0xF2), (.undefinedF3, 0xF3), (.undefinedF4, 0xF4),
   (.undefinedF7, 0xF7), (.undefinedFA, 0xFA), (.undefinedFB, 0xFB), (.undefinedFC, 0xFC),
   (.undefinedFF, 0xFF)]

/-- The 105 undefined opcodes, each with its byte: 30_encoding.md R92. -/
def undefinedTable : List (Instr × Byte) :=
  undefinedPart1 ++ undefinedPart2 ++ undefinedPart3 ++ undefinedPart4 ++ undefinedPart5
/-- The instructions that write `c`: 10_state.md R24. -/
def writesC : Instr → Bool
  | .adc _ | .sbc _ | .cmp _ | .cpx _ | .cpy _ | .asl _ | .rol _ | .lsr _ | .ror _ | .clc | .sec | .plp | .rti => true
  | _ => false

/-- The instructions that write `z`: 10_state.md R25. They are also those that write `n`: R30. -/
def writesZ : Instr → Bool
  | .ora _ | .and _ | .eor _ | .asl _ | .lsr _ | .rol _ | .ror _ | .adc _ | .sbc _ | .cmp _ | .cpx _ | .cpy _ | .lda _
  | .ldx _ | .ldy _ | .tax | .tay | .txa | .tya | .tsx | .inc _ | .dec _ | .inx | .iny | .dex | .dey | .pla | .bit _
  | .plp | .rti => true
  | _ => false

/-- The instructions that write `vf`: 10_state.md R29. -/
def writesV : Instr → Bool
  | .adc _ | .sbc _ | .bit _ | .clv | .plp | .rti => true
  | _ => false

/-- BRK and the interrupt requests. -/
def entersInterrupt : Instr → Bool
  | .brk | .interruptBrk | .interruptIrq | .interruptReset | .interruptNmi => true
  | _ => false

/-- The operations that write `i`: 10_state.md R26. -/
def writesI (i : Instr) : Bool := entersInterrupt i || [Instr.sei, .cli, .plp, .rti].contains i

/-- The instructions that write `d`: 10_state.md R27. -/
def writesD (i : Instr) : Bool := [Instr.sed, .cld, .plp, .rti].contains i

/-- The instructions that write `b`: 10_state.md R28. -/
def writesB (i : Instr) : Bool := [Instr.plp, .rti].contains i

/-- The instructions that write `a`: 10_state.md R20. -/
def writesA : Instr → Bool
  | .ora _ | .and _ | .eor _ | .adc _ | .sbc _ | .lda _ | .pla | .txa | .tya | .asl .accumulator | .lsr .accumulator
  | .rol .accumulator | .ror .accumulator => true
  | _ => false

/-- The instructions that write `x`: 10_state.md R20. -/
def writesX : Instr → Bool
  | .ldx _ | .tax | .tsx | .inx | .dex => true
  | _ => false

/-- The instructions that write `y`: 10_state.md R20. -/
def writesY : Instr → Bool
  | .ldy _ | .tay | .iny | .dey => true
  | _ => false

/-- The operations that write `s`: 10_state.md R21. -/
def writesS (i : Instr) : Bool :=
  entersInterrupt i || [Instr.pha, .php, .pla, .plp, .rts, .rti, .txs].contains i ||
    (match i with
     | .jsr _ => true
     | _ => false)

/-- The operations after which `pc` is not `pc_next`, or need not be: 10_state.md R22. -/
def writesPc (i : Instr) : Bool :=
  entersInterrupt i ||
    (match i with
     | .bcc _ | .bcs _ | .beq _ | .bmi _ | .bne _ | .bpl _ | .bvc _ | .bvs _ | .jmp _ | .jsr _ | .rts | .rti => true
     | _ => false)

/-- The operations that store to CPU memory or PPU memory. -/
def stores : Instr → Bool
  | .sta _ | .stx _ | .sty _ | .inc _ | .dec _ | .asl (.memory _) | .lsr (.memory _) | .rol (.memory _) | .ror (.memory _)
  | .pha | .php | .jsr _ | .ppudataWrite _ => true
  | i => entersInterrupt i

/-- The instructions that store to the memory operand `m`. -/
def storeForms (m : MemMode) : List Instr :=
  [.sta m, .stx m, .sty m, .inc m, .dec m, .asl (.memory m), .lsr (.memory m), .rol (.memory m), .ror (.memory m)]

/-- The memory operand that an instruction reads by `MemRead(ea, 1)` (40_addressing.md R126): all but the stores. -/
def readOperand : Instr → Option MemMode
  | .ora (.memory m) | .and (.memory m) | .eor (.memory m) | .adc (.memory m) | .sbc (.memory m) | .cmp (.memory m)
  | .cpx (.memory m) | .cpy (.memory m) | .lda (.memory m) | .ldx (.memory m) | .ldy (.memory m) | .bit m | .inc m | .dec m
  | .asl (.memory m) | .lsr (.memory m) | .rol (.memory m) | .ror (.memory m) => some m
  | _ => none

/-- The instruction reads the port `p`: as its memory operand, or as a byte of a jump's pointer (40_addressing.md R120, R126). -/
def ReadsPort (i : Instr) (s : State) (p : Port) : Prop :=
  (∃ m, readOperand i = some m ∧ regionOf (resolve m s).ea = .port p) ∨
  ∃ ptr, i = .jmp (.indirect ptr) ∧ (regionOf ptr = .port p ∨ regionOf (word (hi ptr) (lo ptr + 1)) = .port p)

/-- The instruction stores to the port `p`. -/
def StoresToPort (i : Instr) (s : State) (p : Port) : Prop :=
  ∃ m, i ∈ storeForms m ∧ regionOf (resolve m s).ea = .port p

/-- The fetch of an instruction reads the port `p`: its opcode byte or one of its operand bytes, as many as its format has, is there. -/
def FetchesFromPort (s : State) (p : Port) : Prop :=
  ∃ k, k ≤ (entryOf (memRead s.pc s).1).fmt.nb ∧ regionOf (s.pc + BitVec.ofNat 16 k) = .port p

end Sys2Proof.Claims

section

open Sys2Proof Sys2Proof.Machine Sys2Proof.Claims

/-! ### Encoding -/

/-- Decoding the bytes of a well-formed instruction, whatever follows them, gives it back (30_encoding.md R80, R82, R90, R91, R93). An
instruction that has no opcode is a call: `Obligations.CallEncodingRoundTrip`. -/
def Obligations.EncodingRoundTrip : Prop :=
  ∀ i : Instr, i.wf = true → i.opcode.isSome = true → ∀ rest, decode (encode i ++ rest) = .ok (i, rest)

/-- Each operation that is called is what its call stands for, at one value of the toggle `w`; the value matters for the four writes of
the two-write ports only (49_ppu_vt.md R291 to R300; 60_exceptions.md R321). -/
def Obligations.CallEncodingRoundTrip : Prop :=
  ∀ i : Instr, i.wf = true → i.opcode.isSome = false → ∃ t, encodeCall i = some t ∧ (∃ w, decodeCall t w = some i) ∧
    ∀ w j, decodeCall t w = some j → encodeCall j = some t

/-- What the decoder reads is well-formed, and its bytes are those that were read: no two encodings of one instruction
(30_encoding.md R80, R91). -/
def Obligations.DecodedBytesAreTheEncoding : Prop :=
  ∀ bs i rest, decode bs = .ok (i, rest) → i.wf = true ∧ bs = encode i ++ rest

/-- The decoder is total over the 256 opcode bytes, which alone give the length; 105 of them are undefined (30_encoding.md R80, R81,
R83). -/
def Obligations.DecoderIsTotal : Prop :=
  decode [] = .error .noOpcode ∧
  (∀ op bs,
    (bs.length < (entryOf op).fmt.nb → decode (op :: bs) = .error (.operandMissing op)) ∧
    ((entryOf op).fmt.nb ≤ bs.length →
      ∃ i, decode (op :: bs) = .ok (i, bs.drop (entryOf op).fmt.nb) ∧ i.opcode = some op ∧
        i.operandBytes = bs.take (entryOf op).fmt.nb)) ∧
  (∀ op, baseOf op ≤ 7 ∧ (baseOf op = 0 ↔ op ∈ undefinedTable.map Prod.snd)) ∧
  undefinedTable.length = 105 ∧ (undefinedTable.map Prod.snd).Nodup

/-- A few words written out from the opcode map decode to their instruction: a sanity statement (30_encoding.md R90, R95). -/
def Obligations.SpecWordsDecode : Prop :=
  decode [0xA9, 0x05] = .ok (.lda (.immediate 0x05), []) ∧
  decode [0x0A] = .ok (.asl .accumulator, []) ∧
  decode [0xB6, 0x10] = .ok (.ldx (.memory (.zeroPageY 0x10)), []) ∧
  decode [0x20, 0x34, 0x12] = .ok (.jsr 0x1234, []) ∧
  decode [0xBD, 0xFF, 0x20] = .ok (.lda (.memory (.absoluteX 0x20FF)), []) ∧
  decode [0x6C, 0xFF, 0x02] = .ok (.jmp (.indirect 0x02FF), []) ∧
  decode [0xA1, 0x20] = .ok (.lda (.memory (.zpXIndirect 0x20)), []) ∧
  decode [0x91, 0x20] = .ok (.sta (.zpIndirectY 0x20), []) ∧
  decode [0xD0, 0xFB] = .ok (.bne 0xFB, []) ∧
  decode [0x00] = .ok (.brk, []) ∧
  decode [0xFF] = .ok (.undefinedFF, [])

/-! ### The step -/

/-- The CPU's turn runs the instruction that the bytes at `pc` decode to, with `pc` moved past them. The bytes are read in ascending
order, and only as many as the instruction has; a read from the ports has its side effects first (30_encoding.md R84; 20_memory.md
R60, R64). -/
def Obligations.StepRunsDecodedInstruction : Prop :=
  ∀ s : State, (s.turns = [] ∨ s.turns.head? = some .cpu) →
    let op := memRead s.pc { s with turns := s.turns.tail }
    let b1 := memRead (s.pc + 1) op.2
    let b2 := memRead (s.pc + 2) b1.2
    ∀ i, i.wf = true →
      (decode [op.1] = .ok (i, []) → step s = exec i { op.2 with pc := s.pc + 1 }) ∧
      (decode [op.1, b1.1] = .ok (i, []) → step s = exec i { b1.2 with pc := s.pc + 2 }) ∧
      (decode [op.1, b1.1, b2.1] = .ok (i, []) → step s = exec i { b2.2 with pc := s.pc + 3 })

/-- Another agent's turn runs the row its call stands for, or the call that has no row, in the state as it is (00_scope.md R5;
60_exceptions.md R321). -/
def Obligations.PendingCallRunsItsRow : Prop :=
  ∀ (s : State) (t : Turn) (ts : List Turn), s.turns = t :: ts → t ≠ .cpu →
    (∀ i, decodeCall t s.ppu.w = some i → step s = exec i { s with turns := ts }) ∧
    (decodeCall t s.ppu.w = none → step s = .next (callNoRow t { s with turns := ts }))

/-- No step of any state stops: there is no fault, trap, stall or refusal (30_encoding.md R85; 60_exceptions.md R320; 20_memory.md
R66). -/
def Obligations.EveryStepCompletes : Prop :=
  ∀ s : State, Completes s

/-- The invariant of the block is kept by every step from every state that meets it: both memories stay in canonical form and list only
locations that exist, and the address map stays one of the 16 KB space (20_memory.md R51, R55, R58, R65). -/
def Obligations.StepKeepsTheInvariant : Prop :=
  ∀ s t : State, s.wf = true → step s = .next t → t.wf = true

/-- The state the host creates meets the invariant exactly when what it is given does; the reset state meets it. -/
def Obligations.ResetMeetsTheInvariant : Prop :=
  State.reset.wf = true ∧
  ∀ init cpuMem ppuMem cfg, (State.powerOn init cpuMem ppuMem cfg).wf = true ↔
    (cpuMem.wf = true ∧ (∀ c ∈ cpuMem, cpuLocation c.1 = true) ∧ ppuMem.wf = true ∧ (∀ c ∈ ppuMem, c.1 < 0x4000) ∧
      ∀ p ∈ cfg.ntMap, p.2 < 0x3F00)

/-- No step of any state changes the configuration (10_state.md R40). -/
def Obligations.StepKeepsConfiguration : Prop :=
  ∀ s t : State, step s = .next t → t.cfg = s.cfg

/-- No state depends on a cycle count: two states that differ only in the counts (and in the byte last handed to a caller) step to
states that differ only in them (70_reset_and_hazards.md R370). -/
def Obligations.CycleCountsAreOutputsOnly : Prop :=
  ∀ (s : State) (n : Nat) (b : Byte), ∃ t u : State,
    step s = .next t ∧ step { s with cycles := n, portData := b } = .next u ∧
    { u with cycles := t.cycles, portData := t.portData } = t

/-! ### The packed status and the ALU -/

/-- `Pack` and `Unpack`, and the accessor `flags` (00_scope.md R12; 10_state.md R31; 60_exceptions.md R337). -/
def Obligations.PackAndUnpack : Prop :=
  (∀ p bflag, pack p bflag = statusByte p bflag ∧ (pack p bflag).getLsbD 5 = true ∧ (pack p bflag).getLsbD 4 = bflag) ∧
  (∀ p, unpack p true = flagsOf p (p.getLsbD 4) ∧ unpack p false = flagsOf p false) ∧
  (∀ p bflag keepb, unpack (pack p bflag) keepb = { p with b := bflag && keepb }) ∧
  (∀ s, flags s = statusByte s.ps s.ps.b)

/-- ORA, AND, EOR and BIT, bit by bit (41_alu.md R142 to R145). -/
def Obligations.AluLogicAndBitTest : Prop :=
  ∀ (A B : Byte) (cin : Bool),
    (∀ k, (alu .ora A B cin).r.getLsbD k = (A.getLsbD k || B.getLsbD k)) ∧
    (∀ k, (alu .and A B cin).r.getLsbD k = (A.getLsbD k && B.getLsbD k)) ∧
    (∀ k, (alu .eor A B cin).r.getLsbD k = (A.getLsbD k ^^ B.getLsbD k)) ∧
    (∀ k, (alu .bit A B cin).r.getLsbD k = (A.getLsbD k && B.getLsbD k)) ∧
    (∀ op ∈ [AluOp.ora, .and, .eor],
      let o := alu op A B cin
      o.c = none ∧ o.vf = none ∧ o.z = some (decide (o.r = 0)) ∧ o.n = some (o.r.getLsbD 7)) ∧
    (let o := alu .bit A B cin
     o.c = none ∧ o.vf = some (B.getLsbD 6) ∧ o.z = some (decide (o.r = 0)) ∧ o.n = some (B.getLsbD 7)) ∧
    (A = B → (alu .eor A B cin).z = some true)

/-- The shifts and rotates as arithmetic on the operand, and the nine rotations that restore the byte and the carry (41_alu.md R146 to
R149). -/
def Obligations.AluShiftsAndRotates : Prop :=
  (∀ (A B : Byte) (cin : Bool),
    (alu .asl A B cin).r.toNat = B.toNat * 2 % 256 ∧ (alu .asl A B cin).c = some (decide (128 ≤ B.toNat)) ∧
    (alu .lsr A B cin).r.toNat = B.toNat / 2 ∧ (alu .lsr A B cin).c = some (decide (B.toNat % 2 = 1)) ∧
    (alu .lsr A B cin).n = some false ∧
    (alu .rol A B cin).r.toNat = (B.toNat * 2 + cin.toNat) % 256 ∧ (alu .rol A B cin).c = some (decide (128 ≤ B.toNat)) ∧
    (alu .ror A B cin).r.toNat = B.toNat / 2 + cin.toNat * 128 ∧ (alu .ror A B cin).c = some (decide (B.toNat % 2 = 1)) ∧
    (alu .ror A B cin).n = some cin ∧
    (∀ op ∈ [AluOp.asl, .lsr, .rol, .ror],
      let o := alu op A B cin
      o.z = some (decide (o.r = 0)) ∧ o.n = some (o.r.getLsbD 7) ∧ o.vf = none)) ∧
  ∀ (B : Byte) (cin : Bool),
    let rol (p : Byte × Bool) : Byte × Bool := ((alu .rol 0 p.1 p.2).r, (alu .rol 0 p.1 p.2).c.getD p.2)
    rol (rol (rol (rol (rol (rol (rol (rol (rol (B, cin))))))))) = (B, cin)

/-- ADC: the sum, its carry, and `vout` as the signed overflow of the addition, in both of the rule's forms (41_alu.md R150). -/
def Obligations.AluAddWithCarry : Prop :=
  ∀ (A B : Byte) (cin : Bool),
    let T := A.toNat + B.toNat + cin.toNat
    let S : Int := signed A + signed B + cin.toNat
    let o := alu .adc A B cin
    o.r.toNat = T % 256 ∧ o.c = some (decide (256 ≤ T)) ∧ o.z = some (decide (o.r = 0)) ∧ o.n = some (o.r.getLsbD 7) ∧
    o.vf = some (decide (S < -128 ∨ 127 < S)) ∧
    o.vf = some (A.getLsbD 7 == B.getLsbD 7 && o.r.getLsbD 7 != A.getLsbD 7) ∧
    o.vf = some (decide ((A ^^^ o.r) &&& (B ^^^ o.r) &&& 0x80 ≠ 0))

/-- SBC: the difference, "no borrow", and `vout` as the signed overflow of the subtraction, in both of the rule's forms (41_alu.md
R151). -/
def Obligations.AluSubtractWithBorrow : Prop :=
  ∀ (A B : Byte) (cin : Bool),
    let T : Int := A.toNat - B.toNat - (1 - cin.toNat)
    let S : Int := signed A - signed B - (1 - cin.toNat)
    let o := alu .sbc A B cin
    (o.r.toNat : Int) = T % 256 ∧ o.c = some (decide (0 ≤ T)) ∧ o.z = some (decide (o.r = 0)) ∧ o.n = some (o.r.getLsbD 7) ∧
    o.vf = some (decide (S < -128 ∨ 127 < S)) ∧
    o.vf = some (A.getLsbD 7 != B.getLsbD 7 && o.r.getLsbD 7 != A.getLsbD 7) ∧
    o.vf = some (decide ((A ^^^ B) &&& (A ^^^ o.r) &&& 0x80 ≠ 0))

/-- SBC is ADC of the complement, in every output (41_alu.md R158). -/
def Obligations.SubtractIsAddOfComplement : Prop :=
  ∀ (A B : Byte) (cin : Bool), alu .sbc A B cin = alu .adc A (B ^^^ 0xFF) cin

/-- CMP, INC, DEC and PASS (41_alu.md R153 to R156). -/
def Obligations.AluCompareIncrementDecrementPass : Prop :=
  ∀ (A B : Byte) (cin : Bool),
    ((alu .cmp A B cin).r.toNat : Int) = ((A.toNat : Int) - B.toNat) % 256 ∧
    (alu .cmp A B cin).c = some (decide (B.toNat ≤ A.toNat)) ∧ (alu .cmp A B cin).z = some (decide (A = B)) ∧
    (alu .inc A B cin).r.toNat = (B.toNat + 1) % 256 ∧
    ((alu .dec A B cin).r.toNat : Int) = ((B.toNat : Int) - 1) % 256 ∧
    (alu .pass A B cin).r = B ∧
    (∀ op ∈ [AluOp.inc, .dec, .pass], (alu op A B cin).c = none) ∧
    (∀ op ∈ [AluOp.cmp, .inc, .dec, .pass],
      let o := alu op A B cin
      o.z = some (decide (o.r = 0)) ∧ o.n = some (o.r.getLsbD 7) ∧ o.vf = none)

/-- Which flags each operation drives; a flag that is not driven keeps its value, and `i`, `d` and `b` always do (41_alu.md R159; the
sources of the driven flags are in the claims on the operations). -/
def Obligations.AluDrivesOnlyItsFlags : Prop :=
  ∀ (A B : Byte) (cin : Bool) (p : Status),
    (∀ op ∈ [AluOp.ora, .and, .eor, .inc, .dec, .pass],
      ∃ z n, p.drive (alu op A B cin) = { p with z := z, n := n }) ∧
    (∃ z vf n, p.drive (alu .bit A B cin) = { p with z := z, vf := vf, n := n }) ∧
    (∀ op ∈ [AluOp.asl, .lsr, .rol, .ror, .cmp],
      ∃ c z n, p.drive (alu op A B cin) = { p with c := c, z := z, n := n }) ∧
    (∀ op ∈ [AluOp.adc, .sbc],
      ∃ c z vf n, p.drive (alu op A B cin) = { p with c := c, z := z, vf := vf, n := n })

/-! ### Memory -/

/-- The CPU address map: RAM mirrors every 0x0800 below 0x2000, the ports every 8 from 0x2000 to 0x3FFF, and the location a mirror
reaches is the only thing an access depends on (20_memory.md R55, R56). -/
def Obligations.CpuMirrors : Prop :=
  (∀ a : Word, a.toNat < 0x2000 → regionOf a = .cell (a.toNat &&& 0x07FF)) ∧
  (∀ a : Word, 0x2000 ≤ a.toNat → a.toNat ≤ 0x3FFF → regionOf a = .port (portOf (a.toNat &&& 7))) ∧
  (∀ p q : Word, regionOf p = regionOf q → ∀ v s, memRead p s = memRead q s ∧ memWrite p v s = memWrite q v s) ∧
  (∀ (a : Word) p, regionOf a = .port p → ∀ v s, memRead a s = portRead p s ∧ memWrite a v s = portWrite p v s)

/-- A read of storage gives the value of the latest write to the same location, a write leaves every other location alone, and a read
of storage changes nothing (20_memory.md R59, R61). -/
def Obligations.StorageReadAfterWrite : Prop :=
  ∀ (s : State) (p q : Word) (j k : Nat) (v : Byte), s.wf = true → regionOf p = .cell j → regionOf q = .cell k →
    memRead q (memWrite p v s) = (if k = j then v else (memRead q s).1, memWrite p v s) ∧
    memWrite p v s = { s with cpuMem := (memWrite p v s).cpuMem }

/-- A read of any address changes nothing but the port engine's registers and the count of free values; a read of `$2002` clears the
vblank flag and `w`; a read of `$2007` moves `v`; no other read moves a port register (20_memory.md R59; 49_ppu_vt.md R302,
R303). -/
def Obligations.ReadsChangePortsOnly : Prop :=
  ∀ (s : State) (a : Word), PortsOnly s (memRead a s).2 ∧
    (regionOf a = .port .ppustatus → (memRead a s).1 = s.ppu.ppustatus ∧ (memRead a s).2 =
      { s with ppu := { s.ppu with ppustatus := BitVec.ofNat 8 (s.ppu.ppustatus.toNat % 128), w := false } }) ∧
    (regionOf a = .port .ppudata → (memRead a s).2 =
      { s with ppu := { s.ppu with v := s.ppu.v + if s.ppu.ppuctrl.getLsbD 2 then 32 else 1 } }) ∧
    (regionOf a ≠ .port .ppustatus → regionOf a ≠ .port .ppudata → (memRead a s).2.ppu = s.ppu) ∧
    (∀ k, regionOf a = .cell k → (memRead a s).2 = s)

/-- The PPU space: an address is reduced to 14 bits, the palette repeats every 0x20 from 0x3F00, below it the launch's map applies, and
a read after a write of the same location gives the value written (20_memory.md R58, R61; 00_scope.md R14). The reduction and the
place of the map are the model's reading (log 8). -/
def Obligations.PpuSpaceMirrors : Prop :=
  (∀ (cfg : Params) (a : Word), 0x3F00 ≤ a.toNat % 0x4000 → ppuBacking cfg a = 0x3F00 + a.toNat % 0x20) ∧
  (∀ (cfg : Params) (a : Word), a.toNat % 0x4000 < 0x3F00 → ppuBacking cfg a = ntBacking cfg.ntMap (a.toNat % 0x4000)) ∧
  (∀ (s : State) (p q : Word) (v : Byte), s.wf = true →
    ppuRead q (ppuWrite p v s) = if ppuBacking s.cfg q = ppuBacking s.cfg p then v else ppuRead q s)

/-- `Push` and `Pull`: the write uses `s` before the decrement, the read uses `s` after the increment, and `s` wraps (00_scope.md
R11). -/
def Obligations.PushAndPull : Prop :=
  (∀ (v : Byte) (s : State), ∃ sp : Byte, sp.toNat = (s.s.toNat + 255) % 256 ∧
    push v s = { s with cpuMem := s.cpuMem.set (stackCell s.s) v, s := sp }) ∧
  (∀ s : State, ∃ sp : Byte, sp.toNat = (s.s.toNat + 1) % 256 ∧
    pull s = (s.cpuMem.get (stackCell sp), { s with s := sp }))

/-! ### The resolver -/

/-- The modes that read no pointer: the operand bytes, `ea`, the page-cross signal, and nothing changed (40_addressing.md R114 to
R119). -/
def Obligations.ResolverDirectModes : Prop :=
  ∀ (b1 b2 : Byte) (s : State),
    let base := b2.toNat * 256 + b1.toNat
    resolve (.zeroPage b1) s = ⟨BitVec.ofNat 16 b1.toNat, false, s⟩ ∧
    resolve (.zeroPageX b1) s = ⟨BitVec.ofNat 16 ((b1.toNat + s.x.toNat) % 256), false, s⟩ ∧
    resolve (.zeroPageY b1) s = ⟨BitVec.ofNat 16 ((b1.toNat + s.y.toNat) % 256), false, s⟩ ∧
    resolve (.absolute (word b2 b1)) s = ⟨BitVec.ofNat 16 base, false, s⟩ ∧
    resolve (.absoluteX (word b2 b1)) s = ⟨BitVec.ofNat 16 ((base + s.x.toNat) % 65536),
      decide ((base + s.x.toNat) % 65536 / 256 ≠ b2.toNat), s⟩ ∧
    resolve (.absoluteY (word b2 b1)) s = ⟨BitVec.ofNat 16 ((base + s.y.toNat) % 65536),
      decide ((base + s.y.toNat) % 65536 / 256 ≠ b2.toNat), s⟩ ∧
    (∀ m ∈ [MemMode.zeroPage b1, .zeroPageX b1, .zeroPageY b1], m.operandBytes = [b1]) ∧
    (∀ m ∈ [MemMode.absolute (word b2 b1), .absoluteX (word b2 b1), .absoluteY (word b2 b1)], m.operandBytes = [b1, b2])

/-- The modes that read a pointer in page zero, whose second byte stays in page zero (40_addressing.md R121, R122). -/
def Obligations.ResolverPointerModes : Prop :=
  ∀ (b1 : Byte) (s : State),
    let at0 (k : Nat) : Nat := (s.cpuMem.get (k % 256)).toNat
    let ptrX := at0 (b1.toNat + s.x.toNat) + at0 (b1.toNat + s.x.toNat + 1) * 256
    let ptrY := at0 b1.toNat + at0 (b1.toNat + 1) * 256
    resolve (.zpXIndirect b1) s = ⟨BitVec.ofNat 16 ptrX, false, s⟩ ∧
    resolve (.zpIndirectY b1) s = ⟨BitVec.ofNat 16 ((ptrY + s.y.toNat) % 65536),
      decide ((ptrY + s.y.toNat) % 65536 / 256 ≠ ptrY / 256), s⟩ ∧
    (MemMode.zpXIndirect b1).operandBytes = [b1] ∧ (MemMode.zpIndirectY b1).operandBytes = [b1]

/-- The operand value: an immediate byte without an access, otherwise the byte at `ea`, read once after the mode is resolved
(40_addressing.md R113, R126). -/
def Obligations.OperandAccess : Prop :=
  (∀ (b1 : Byte) (s : State), readSource (.immediate b1) s = ⟨b1, false, s⟩) ∧
  ∀ (m : MemMode) (s : State),
    (resolve m s).st = s ∧
    (∀ k, regionOf (resolve m s).ea = .cell k → readSource (.memory m) s = ⟨s.cpuMem.get k, (resolve m s).cross, s⟩) ∧
    (∀ p, regionOf (resolve m s).ea = .port p →
      readSource (.memory m) s = ⟨(portRead p s).1, (resolve m s).cross, (portRead p s).2⟩)

/-! ### Logic, shifts, arithmetic -/

/-- ORA, AND and EOR (42_logic_bit.md R170 to R172). -/
def Obligations.LogicInstructions : Prop :=
  AccumulatorResult .ora (aluRows 0x09 0x05 0x15 0x0D 0x1D 0x19 0x01 0x11) (· ||| ·) ∧
  AccumulatorResult .and (aluRows 0x29 0x25 0x35 0x2D 0x3D 0x39 0x21 0x31) (· &&& ·) ∧
  AccumulatorResult .eor (aluRows 0x49 0x45 0x55 0x4D 0x5D 0x59 0x41 0x51) (· ^^^ ·)

/-- BIT (42_logic_bit.md R173). -/
def Obligations.BitTestInstruction : Prop :=
  let rows : List Row := [⟨.zeroPage, 0x24, 3⟩, ⟨.absolute, 0x2C, 4⟩]
  HasForms Instr.bit MemMode.mode rows ∧
  ∀ r ∈ rows, ∀ m s, m.mode = r.mode →
    let q := readSource (.memory m) s
    exec (.bit m) s = .next
      { s with
        ps := { s.ps with z := decide (s.a &&& q.val = 0), n := q.val.getLsbD 7, vf := q.val.getLsbD 6 }
        ppu := q.st.ppu, drawn := q.st.drawn, cycles := r.base }

/-- ASL, LSR, ROL and ROR, on the accumulator and on memory (43_shift_rotate.md R180 to R184). -/
def Obligations.ShiftInstructions : Prop :=
  ShiftResult .asl (shiftRows 0x0A 0x06 0x16 0x0E 0x1E) (fun M _ => BitVec.ofNat 8 (M.toNat * 2))
    (fun M R p => { zn R p with c := M.getLsbD 7 }) ∧
  ShiftResult .lsr (shiftRows 0x4A 0x46 0x56 0x4E 0x5E) (fun M _ => BitVec.ofNat 8 (M.toNat / 2))
    (fun M R p => { p with c := M.getLsbD 0, z := decide (R = 0), n := false }) ∧
  ShiftResult .rol (shiftRows 0x2A 0x26 0x36 0x2E 0x3E) (fun M c => BitVec.ofNat 8 (M.toNat * 2 + c.toNat))
    (fun M R p => { zn R p with c := M.getLsbD 7 }) ∧
  ShiftResult .ror (shiftRows 0x6A 0x66 0x76 0x6E 0x7E) (fun M c => BitVec.ofNat 8 (M.toNat / 2 + c.toNat * 128))
    (fun M R p => { zn R p with c := M.getLsbD 0 })

/-- ADC, whatever the decimal flag holds (44_arithmetic_compare.md R190). -/
def Obligations.AddWithCarryInstruction : Prop :=
  let rows := aluRows 0x69 0x65 0x75 0x6D 0x7D 0x79 0x61 0x71
  HasForms Instr.adc Source.mode rows ∧
  ∀ r ∈ rows, ∀ o s, o.mode = r.mode →
    let q := readSource o s
    let T := s.a.toNat + q.val.toNat + s.ps.c.toNat
    let R : Byte := BitVec.ofNat 8 T
    exec (.adc o) s = .next
      { s with
        a := R
        ps := { zn R s.ps with c := decide (256 ≤ T), vf := decide ((s.a ^^^ R) &&& (q.val ^^^ R) &&& 0x80 ≠ 0) }
        ppu := q.st.ppu, drawn := q.st.drawn, cycles := r.base + q.cross.toNat }

/-- SBC, whatever the decimal flag holds (44_arithmetic_compare.md R191). -/
def Obligations.SubtractWithBorrowInstruction : Prop :=
  let rows := aluRows 0xE9 0xE5 0xF5 0xED 0xFD 0xF9 0xE1 0xF1
  HasForms Instr.sbc Source.mode rows ∧
  ∀ r ∈ rows, ∀ o s, o.mode = r.mode →
    let q := readSource o s
    let T : Int := s.a.toNat - q.val.toNat - (1 - s.ps.c.toNat)
    let R : Byte := BitVec.ofInt 8 T
    exec (.sbc o) s = .next
      { s with
        a := R
        ps := { zn R s.ps with c := decide (0 ≤ T), vf := decide ((s.a ^^^ q.val) &&& (s.a ^^^ R) &&& 0x80 ≠ 0) }
        ppu := q.st.ppu, drawn := q.st.drawn, cycles := r.base + q.cross.toNat }

/-- CMP, CPX and CPY (44_arithmetic_compare.md R192 to R194). -/
def Obligations.CompareInstructions : Prop :=
  CompareResult .cmp State.a (aluRows 0xC9 0xC5 0xD5 0xCD 0xDD 0xD9 0xC1 0xD1) ∧
  CompareResult .cpx State.x [⟨.immediate, 0xE0, 2⟩, ⟨.zeroPage, 0xE4, 3⟩, ⟨.absolute, 0xEC, 4⟩] ∧
  CompareResult .cpy State.y [⟨.immediate, 0xC0, 2⟩, ⟨.zeroPage, 0xC4, 3⟩, ⟨.absolute, 0xCC, 4⟩] ∧
  (∀ o s, (Instr.cpx o).wf = true ∨ (Instr.cpy o).wf = true → (readSource o s).cross = false)

/-! ### Loads, stores, transfers, increments and decrements -/

/-- LDA, LDX and LDY (45_load_store_transfer_incdec.md R200 to R202). -/
def Obligations.LoadInstructions : Prop :=
  AccumulatorResult .lda (aluRows 0xA9 0xA5 0xB5 0xAD 0xBD 0xB9 0xA1 0xB1) (fun _ M => M) ∧
  (let rows : List Row := [⟨.immediate, 0xA2, 2⟩, ⟨.zeroPage, 0xA6, 3⟩, ⟨.zeroPageY, 0xB6, 4⟩, ⟨.absolute, 0xAE, 4⟩,
     ⟨.absoluteY, 0xBE, 4⟩]
   HasForms Instr.ldx Source.mode rows ∧
   ∀ r ∈ rows, ∀ o s, o.mode = r.mode →
     let q := readSource o s
     exec (.ldx o) s = .next
       { s with x := q.val, ps := zn q.val s.ps, ppu := q.st.ppu, drawn := q.st.drawn, cycles := r.base + q.cross.toNat }) ∧
  (let rows : List Row := [⟨.immediate, 0xA0, 2⟩, ⟨.zeroPage, 0xA4, 3⟩, ⟨.zeroPageX, 0xB4, 4⟩, ⟨.absolute, 0xAC, 4⟩,
     ⟨.absoluteX, 0xBC, 4⟩]
   HasForms Instr.ldy Source.mode rows ∧
   ∀ r ∈ rows, ∀ o s, o.mode = r.mode →
     let q := readSource o s
     exec (.ldy o) s = .next
       { s with y := q.val, ps := zn q.val s.ps, ppu := q.st.ppu, drawn := q.st.drawn, cycles := r.base + q.cross.toNat })

/-- STA, STX and STY (45_load_store_transfer_incdec.md R203 to R205). -/
def Obligations.StoreInstructions : Prop :=
  StoreResult .sta State.a
    [⟨.zeroPage, 0x85, 3⟩, ⟨.zeroPageX, 0x95, 4⟩, ⟨.absolute, 0x8D, 4⟩, ⟨.absoluteX, 0x9D, 5⟩, ⟨.absoluteY, 0x99, 5⟩,
     ⟨.zpXIndirect, 0x81, 6⟩, ⟨.zpIndirectY, 0x91, 6⟩] ∧
  StoreResult .stx State.x [⟨.zeroPage, 0x86, 3⟩, ⟨.zeroPageY, 0x96, 4⟩, ⟨.absolute, 0x8E, 4⟩] ∧
  StoreResult .sty State.y [⟨.zeroPage, 0x84, 3⟩, ⟨.zeroPageX, 0x94, 4⟩, ⟨.absolute, 0x8C, 4⟩]

/-- TAX, TAY, TXA, TYA, TSX and TXS (45_load_store_transfer_incdec.md R206 to R211). -/
def Obligations.TransferInstructions : Prop :=
  encode .tax = [0xAA] ∧ encode .tay = [0xA8] ∧ encode .txa = [0x8A] ∧ encode .tya = [0x98] ∧ encode .tsx = [0xBA] ∧
  encode .txs = [0x9A] ∧
  ∀ s : State,
    exec .tax s = .next { s with x := s.a, ps := zn s.a s.ps, cycles := 2 } ∧
    exec .tay s = .next { s with y := s.a, ps := zn s.a s.ps, cycles := 2 } ∧
    exec .txa s = .next { s with a := s.x, ps := zn s.x s.ps, cycles := 2 } ∧
    exec .tya s = .next { s with a := s.y, ps := zn s.y s.ps, cycles := 2 } ∧
    exec .tsx s = .next { s with x := s.s, ps := zn s.s s.ps, cycles := 2 } ∧
    exec .txs s = .next { s with s := s.x, cycles := 2 }

/-- INC and DEC (45_load_store_transfer_incdec.md R212, R213). -/
def Obligations.MemoryIncrementDecrement : Prop :=
  let incRows : List Row := [⟨.zeroPage, 0xE6, 5⟩, ⟨.zeroPageX, 0xF6, 6⟩, ⟨.absolute, 0xEE, 6⟩, ⟨.absoluteX, 0xFE, 7⟩]
  let decRows : List Row := [⟨.zeroPage, 0xC6, 5⟩, ⟨.zeroPageX, 0xD6, 6⟩, ⟨.absolute, 0xCE, 6⟩, ⟨.absoluteX, 0xDE, 7⟩]
  HasForms Instr.inc MemMode.mode incRows ∧ HasForms Instr.dec MemMode.mode decRows ∧
  ModifyResult .inc incRows (fun M _ => BitVec.ofNat 8 (M.toNat + 1)) (fun _ R p => zn R p) ∧
  ModifyResult .dec decRows (fun M _ => BitVec.ofNat 8 (M.toNat + 255)) (fun _ R p => zn R p)

/-- INX, INY, DEX and DEY (45_load_store_transfer_incdec.md R214 to R217). -/
def Obligations.RegisterIncrementDecrement : Prop :=
  encode .inx = [0xE8] ∧ encode .iny = [0xC8] ∧ encode .dex = [0xCA] ∧ encode .dey = [0x88] ∧
  ∀ s : State,
    let up (r : Byte) : Byte := BitVec.ofNat 8 (r.toNat + 1)
    let down (r : Byte) : Byte := BitVec.ofNat 8 (r.toNat + 255)
    exec .inx s = .next { s with x := up s.x, ps := zn (up s.x) s.ps, cycles := 2 } ∧
    exec .iny s = .next { s with y := up s.y, ps := zn (up s.y) s.ps, cycles := 2 } ∧
    exec .dex s = .next { s with x := down s.x, ps := zn (down s.x) s.ps, cycles := 2 } ∧
    exec .dey s = .next { s with y := down s.y, ps := zn (down s.y) s.ps, cycles := 2 }

/-! ### Branches, stack, flags, control -/

/-- The eight branches, taken and not taken (46_branch.md R230 to R239). -/
def Obligations.BranchInstructions : Prop :=
  BranchResult .bcc 0x90 (fun s => !s.ps.c) ∧ BranchResult .bcs 0xB0 (fun s => s.ps.c) ∧
  BranchResult .beq 0xF0 (fun s => s.ps.z) ∧ BranchResult .bmi 0x30 (fun s => s.ps.n) ∧
  BranchResult .bne 0xD0 (fun s => !s.ps.z) ∧ BranchResult .bpl 0x10 (fun s => !s.ps.n) ∧
  BranchResult .bvc 0x50 (fun s => !s.ps.vf) ∧ BranchResult .bvs 0x70 (fun s => s.ps.vf)

/-- PHA, PHP, PLA and PLP (47_stack_flags.md R250 to R253). -/
def Obligations.StackInstructions : Prop :=
  encode .pha = [0x48] ∧ encode .php = [0x08] ∧ encode .pla = [0x68] ∧ encode .plp = [0x28] ∧
  ∀ s : State,
    let top := s.cpuMem.get (stackCell (s.s + 1))
    exec .pha s = .next { s with cpuMem := s.cpuMem.set (stackCell s.s) s.a, s := s.s - 1, cycles := 3 } ∧
    exec .php s = .next
      { s with cpuMem := s.cpuMem.set (stackCell s.s) (statusByte s.ps s.ps.b), s := s.s - 1, cycles := 3 } ∧
    exec .pla s = .next { s with a := top, s := s.s + 1, ps := zn top s.ps, cycles := 4 } ∧
    exec .plp s = .next { s with s := s.s + 1, ps := flagsOf top false, cycles := 4 }

/-- CLC, SEC, CLI, SEI, CLV, CLD, SED and NOP (47_stack_flags.md R255 to R262). -/
def Obligations.FlagInstructionsAndNop : Prop :=
  encode .clc = [0x18] ∧ encode .sec = [0x38] ∧ encode .cli = [0x58] ∧ encode .sei = [0x78] ∧ encode .clv = [0xB8] ∧
  encode .cld = [0xD8] ∧ encode .sed = [0xF8] ∧ encode .nop = [0xEA] ∧
  ∀ s : State,
    exec .clc s = .next { s with ps := { s.ps with c := false }, cycles := 2 } ∧
    exec .sec s = .next { s with ps := { s.ps with c := true }, cycles := 2 } ∧
    exec .cli s = .next { s with ps := { s.ps with i := false }, cycles := 2 } ∧
    exec .sei s = .next { s with ps := { s.ps with i := true }, cycles := 2 } ∧
    exec .clv s = .next { s with ps := { s.ps with vf := false }, cycles := 2 } ∧
    exec .cld s = .next { s with ps := { s.ps with d := false }, cycles := 2 } ∧
    exec .sed s = .next { s with ps := { s.ps with d := true }, cycles := 2 } ∧
    exec .nop s = .next { s with cycles := 2 }

/-- JMP, absolute and indirect with the pointer's high byte from the same page (48_control.md R270; 40_addressing.md R120). -/
def Obligations.JumpInstruction : Prop :=
  ∀ (b1 b2 : Byte) (s : State),
    encode (.jmp (.absolute (word b2 b1))) = [0x4C, b1, b2] ∧ encode (.jmp (.indirect (word b2 b1))) = [0x6C, b1, b2] ∧
    exec (.jmp (.absolute (word b2 b1))) s = .next { s with pc := addr16 b1 b2, cycles := 3 } ∧
    (let l := memRead (addr16 b1 b2) s
     let h := memRead (BitVec.ofNat 16 (b2.toNat * 256 + (b1.toNat + 1) % 256)) l.2
     exec (.jmp (.indirect (word b2 b1))) s = .next
       { s with pc := addr16 l.1 h.1, ppu := h.2.ppu, drawn := h.2.drawn, cycles := 5 })

/-- JSR, RTS and RTI (48_control.md R271 to R273). -/
def Obligations.SubroutineAndInterruptReturn : Prop :=
  encode .rts = [0x60] ∧ encode .rti = [0x40] ∧
  ∀ (b1 b2 : Byte) (s : State),
    let pulled (k : Nat) : Byte := s.cpuMem.get (stackCell (s.s + BitVec.ofNat 8 k))
    encode (.jsr (word b2 b1)) = [0x20, b1, b2] ∧
    exec (.jsr (word b2 b1)) s = .next
      { s with
        cpuMem := (s.cpuMem.set (stackCell s.s) (highByte (s.pc - 1))).set (stackCell (s.s - 1)) (lowByte (s.pc - 1))
        s := s.s - 2, pc := addr16 b1 b2, cycles := 6 } ∧
    exec .rts s = .next { s with s := s.s + 2, pc := addr16 (pulled 1) (pulled 2) + 1, cycles := 6 } ∧
    exec .rti s = .next
      { s with
        s := s.s + 3, ps := flagsOf (pulled 1) ((pulled 1).getLsbD 4), pc := addr16 (pulled 2) (pulled 3), cycles := 6 }

/-- BRK: taken with `i` clear, a two-byte no-op with `i` set (48_control.md R275; 30_encoding.md R94; 70_reset_and_hazards.md
R369). The `pc` of the state is `P0 + 1`. -/
def Obligations.BreakInstruction : Prop :=
  encode .brk = [0x00] ∧
  ∀ s : State,
    (s.ps.i = false → exec .brk s = .next
      { s with
        cpuMem := framePushed s (s.pc + 1) true, s := s.s - 3, ps := { s.ps with i := true }
        pc := addr16 (s.cpuMem.get 0xFFFE) (s.cpuMem.get 0xFFFF), cycles := 7 }) ∧
    (s.ps.i = true → exec .brk s = .next { s with pc := s.pc + 1, cycles := 0 })

/-- The 105 undefined opcodes are one-byte no-ops of 0 cycles: as instructions, and as a step on the byte (30_encoding.md R92). -/
def Obligations.UndefinedOpcodesAreNoOps : Prop :=
  undefinedTable.length = 105 ∧
  ∀ p ∈ undefinedTable, encode p.1 = [p.2] ∧ decode [p.2] = .ok (p.1, []) ∧
    ∀ s : State, exec p.1 s = .next { s with cycles := 0 } ∧
      (s.turns = [] → (memRead s.pc s).1 = p.2 → step s = .next { (memRead s.pc s).2 with pc := s.pc + 1, cycles := 0 })

/-! ### Interrupts -/

/-- The four interrupt requests: ignored when masked, otherwise the entry sequence, through the vector of the type (60_exceptions.md
R322, R324, R325; 70_reset_and_hazards.md R369). -/
def Obligations.InterruptRequests : Prop :=
  ∀ p ∈ ([(.interruptBrk, 0xFFFE, true, true), (.interruptIrq, 0xFFFE, false, true), (.interruptReset, 0xFFFC, false, true),
      (.interruptNmi, 0xFFFA, false, false)] : List (Instr × Nat × Bool × Bool)),
    ∀ s : State,
      ((s.ps.i && p.2.2.2) = true → exec p.1 s = .next { s with cycles := 0 }) ∧
      ((s.ps.i && p.2.2.2) = false → exec p.1 s = .next
        { s with
          cpuMem := framePushed s s.pc p.2.2.1, s := s.s - 3, ps := { s.ps with i := true }
          pc := addr16 (s.cpuMem.get p.2.1) (s.cpuMem.get (p.2.1 + 1)), cycles := 7 })

/-- A push and the pull that follows it, a call and its return, an interrupt and its return restore what they say
(47_stack_flags.md R252; 48_control.md R272, R275; 60_exceptions.md R330). An NMI and its return do so whatever `i` holds, inside a
handler too (R331). The step between them moves `pc` only, so the second instruction runs at any `pc`. -/
def Obligations.StackRoundTrips : Prop :=
  ∀ s : State, s.wf = true → ∀ p : Word,
    (∃ t, exec .pha s = .next t ∧ ∀ a', ∃ u, exec .pla { t with pc := p, a := a' } = .next u ∧ u.a = s.a ∧ u.s = s.s) ∧
    (∃ t, exec .php s = .next t ∧ ∃ u, exec .plp { t with pc := p } = .next u ∧ u.ps = { s.ps with b := false } ∧
      u.s = s.s) ∧
    (∀ w, ∃ t, exec (.jsr w) s = .next t ∧ ∃ u, exec .rts { t with pc := p } = .next u ∧ u.pc = s.pc ∧ u.s = s.s) ∧
    (s.ps.i = false → ∃ t, exec .brk s = .next t ∧ ∃ u, exec .rti { t with pc := p } = .next u ∧ u.pc = s.pc + 1 ∧
      u.ps = { s.ps with b := true } ∧ u.s = s.s) ∧
    (s.ps.i = false → ∃ t, exec .interruptBrk s = .next t ∧ ∃ u, exec .rti { t with pc := p } = .next u ∧ u.pc = s.pc ∧
      u.ps = { s.ps with b := true } ∧ u.s = s.s) ∧
    (s.ps.i = false → ∀ i ∈ [Instr.interruptIrq, .interruptReset],
      ∃ t, exec i s = .next t ∧ ∃ u, exec .rti { t with pc := p } = .next u ∧ u.pc = s.pc ∧
        u.ps = { s.ps with b := false } ∧ u.s = s.s) ∧
    (∃ t, exec .interruptNmi s = .next t ∧ ∃ u, exec .rti { t with pc := p } = .next u ∧ u.pc = s.pc ∧
      u.ps = { s.ps with b := false } ∧ u.s = s.s)

/-! ### The PPU port engine -/

/-- Write `$2000` and read `$2002` as calls: what they store, what is returned, what stays (49_ppu_vt.md R291, R292). -/
def Obligations.ControlWriteAndStatusRead : Prop :=
  (∀ d w, decodeCall (.portWrite 0 d) w = some (.ppuctrlWrite d)) ∧ (∀ w, decodeCall (.portRead 2) w = some .ppustatusRead) ∧
  ∀ (d : Byte) (s : State),
    (∃ t : BitVec 15, exec (.ppuctrlWrite d) s = .next { s with ppu := { s.ppu with ppuctrl := d, t := t } } ∧
      t.extractLsb' 0 10 = s.ppu.t.extractLsb' 0 10 ∧ t.extractLsb' 12 3 = s.ppu.t.extractLsb' 12 3 ∧
      t.extractLsb' 10 2 = if s.cfg.ppuctrlWritesTNt then d.extractLsb' 0 2 else s.ppu.t.extractLsb' 10 2) ∧
    (∃ st : Byte, exec .ppustatusRead s = .next
        { s with ppu := { s.ppu with ppustatus := st, w := false }, portData := s.ppu.ppustatus } ∧
      st.getLsbD 7 = false ∧ st.extractLsb' 0 7 = s.ppu.ppustatus.extractLsb' 0 7)

/-- The first and second writes of `$2005` and `$2006`, field by field (49_ppu_vt.md R293 to R296). -/
def Obligations.ScrollAndAddressWrites : Prop :=
  ∀ (d : Byte) (s : State),
    (decodeCall (.portWrite 5 d) false = some (.ppuscrollWriteFirst d) ∧
      ∃ t : BitVec 15, exec (.ppuscrollWriteFirst d) s = .next
          { s with ppu := { s.ppu with t := t, fx := d.extractLsb' 0 3, w := true } } ∧
        t.extractLsb' 0 5 = d.extractLsb' 3 5 ∧ t.extractLsb' 5 10 = s.ppu.t.extractLsb' 5 10) ∧
    (decodeCall (.portWrite 5 d) true = some (.ppuscrollWriteSecond d) ∧
      ∃ t : BitVec 15, exec (.ppuscrollWriteSecond d) s = .next { s with ppu := { s.ppu with t := t, w := false } } ∧
        t.extractLsb' 5 5 = d.extractLsb' 3 5 ∧ t.extractLsb' 12 3 = d.extractLsb' 0 3 ∧
        t.extractLsb' 10 2 = s.ppu.t.extractLsb' 10 2 ∧ t.extractLsb' 0 5 = s.ppu.t.extractLsb' 0 5) ∧
    (decodeCall (.portWrite 6 d) false = some (.ppuaddrWriteFirst d) ∧
      ∃ t : BitVec 15, exec (.ppuaddrWriteFirst d) s = .next { s with ppu := { s.ppu with t := t, w := true } } ∧
        t.extractLsb' 8 6 = d.extractLsb' 0 6 ∧ t.getLsbD 14 = false ∧ t.extractLsb' 0 8 = s.ppu.t.extractLsb' 0 8) ∧
    (decodeCall (.portWrite 6 d) true = some (.ppuaddrWriteSecond d) ∧
      ∃ t : BitVec 15, exec (.ppuaddrWriteSecond d) s = .next { s with ppu := { s.ppu with t := t, v := t, w := false } } ∧
        t.extractLsb' 0 8 = d ∧ t.extractLsb' 8 7 = s.ppu.t.extractLsb' 8 7)

/-- Read and write of `$2007`: the access at `v`, then the increment of all 15 bits (49_ppu_vt.md R298, R299). -/
def Obligations.DataPortAccess : Prop :=
  (∀ w, decodeCall (.portRead 7) w = some .ppudataRead) ∧ (∀ d w, decodeCall (.portWrite 7 d) w = some (.ppudataWrite d)) ∧
  ∀ (d : Byte) (s : State),
    let a : Word := BitVec.ofNat 16 s.ppu.v.toNat
    let next : BitVec 15 := BitVec.ofNat 15 (s.ppu.v.toNat + if s.ppu.ppuctrl.getLsbD 2 then 32 else 1)
    exec .ppudataRead s = .next { s with ppu := { s.ppu with v := next }, portData := ppuRead a s } ∧
    exec (.ppudataWrite d) s = .next { s with ppu := { s.ppu with v := next }, ppuMem := (ppuWrite a d s).ppuMem }

/-- `fineYIncrement` on the fields of `v`, in all its branches (49_ppu_vt.md R300). -/
def Obligations.ScrollIncrement : Prop :=
  (∀ w, decodeCall .fineYIncrement w = some .fineYIncrement) ∧
  ∀ s : State, ∃ v : BitVec 15,
    exec .fineYIncrement s = .next { s with ppu := { s.ppu with v := v } } ∧
    v.extractLsb' 0 5 = s.ppu.v.extractLsb' 0 5 ∧ v.getLsbD 10 = s.ppu.v.getLsbD 10 ∧
    (let fy := s.ppu.v.toNat / 4096
     let cy := s.ppu.v.toNat / 32 % 32
     let flip := decide (fy = 7 ∧ cy = 29)
     v.toNat / 4096 = (if fy < 7 then fy + 1 else 0) ∧
     v.toNat / 32 % 32 = (if fy < 7 then cy else if cy = 29 ∨ cy = 31 then 0 else cy + 1) ∧
     v.getLsbD 11 = (s.ppu.v.getLsbD 11 ^^ flip))

/-- The toggle is one bit for both ports, and only the listed operations change `w`, `t`, `v` and `fx` (49_ppu_vt.md R297, R300, R304;
10_state.md R33, R34, R35): at the port engine; in the fetch of an instruction; in `exec` of every operation, which reaches the port
engine by its operand, by the pointer of a jump or as a port row; and in the calls that have no row, where `powerResetState` is the only
one to change them (70_reset_and_hazards.md R351, R352). That the calls are turns is the model's choice (log 4). -/
def Obligations.ToggleAndScrollRegistersChangeOnlyAsListed : Prop :=
  (∀ (p : Port) (d : Byte) (s : State),
    (portWrite p d s).ppu.w = (s.ppu.w ^^ (p == .ppuscroll || p == .ppuaddr)) ∧
    (portRead p s).2.ppu.w = (s.ppu.w && p != .ppustatus) ∧
    ((portWrite p d s).ppu.t ≠ s.ppu.t → p = .ppuscroll ∨ p = .ppuaddr ∨ (p = .ppuctrl ∧ s.cfg.ppuctrlWritesTNt = true)) ∧
    (portRead p s).2.ppu.t = s.ppu.t ∧
    ((portWrite p d s).ppu.v ≠ s.ppu.v → (p = .ppuaddr ∧ s.ppu.w = true ∧ (portWrite p d s).ppu.v = (portWrite p d s).ppu.t) ∨
      p = .ppudata) ∧
    ((portRead p s).2.ppu.v ≠ s.ppu.v → p = .ppudata) ∧
    ((portWrite p d s).ppu.fx ≠ s.ppu.fx → p = .ppuscroll ∧ s.ppu.w = false) ∧
    (portRead p s).2.ppu.fx = s.ppu.fx) ∧
  (∀ s : State,
    let t := (fetch s).2
    t.ppu.t = s.ppu.t ∧ t.ppu.fx = s.ppu.fx ∧ (t.ppu.w ≠ s.ppu.w → FetchesFromPort s .ppustatus) ∧
    (t.ppu.v ≠ s.ppu.v → FetchesFromPort s .ppudata)) ∧
  (∀ (i : Instr) (s t : State), exec i s = .next t →
    (t.ppu.w ≠ s.ppu.w →
      (∃ d, i ∈ [Instr.ppuscrollWriteFirst d, .ppuscrollWriteSecond d, .ppuaddrWriteFirst d, .ppuaddrWriteSecond d]) ∨
      i = .ppustatusRead ∨ StoresToPort i s .ppuscroll ∨ StoresToPort i s .ppuaddr ∨ ReadsPort i s .ppustatus) ∧
    (t.ppu.t ≠ s.ppu.t →
      (∃ d, i ∈ [Instr.ppuscrollWriteFirst d, .ppuscrollWriteSecond d, .ppuaddrWriteFirst d, .ppuaddrWriteSecond d]) ∨
      StoresToPort i s .ppuscroll ∨ StoresToPort i s .ppuaddr ∨
      (((∃ d, i = .ppuctrlWrite d) ∨ StoresToPort i s .ppuctrl) ∧ s.cfg.ppuctrlWritesTNt = true)) ∧
    (t.ppu.v ≠ s.ppu.v →
      (((∃ d, i = .ppuaddrWriteSecond d) ∨ (StoresToPort i s .ppuaddr ∧ s.ppu.w = true)) ∧ t.ppu.v = t.ppu.t) ∨
      i = .fineYIncrement ∨ i = .ppudataRead ∨ (∃ d, i = .ppudataWrite d) ∨ ReadsPort i s .ppudata ∨
      StoresToPort i s .ppudata) ∧
    (t.ppu.fx ≠ s.ppu.fx →
      (∃ d, i = .ppuscrollWriteFirst d) ∨ (StoresToPort i s .ppuscroll ∧ s.ppu.w = false))) ∧
  ∀ (c : Turn) (s : State), decodeCall c s.ppu.w = none →
    let t := callNoRow c s
    ((t.ppu.w ≠ s.ppu.w ∨ t.ppu.t ≠ s.ppu.t ∨ t.ppu.fx ≠ s.ppu.fx) → ∃ isReset, c = .powerResetState isReset) ∧
    (t.ppu.v ≠ s.ppu.v → c = .powerResetState false)

/-- A CPU access in 0x2000 to 0x3FFF is the port operation: it does what the row does, and the byte read goes to the instruction. An
access that has no row changes no port register: a write changes nothing in the block, and a read gives a free byte, by the CPU and as
a call from outside (49_ppu_vt.md R290, R302, R303). So with OAMDMA at 0x4014. The form of the free byte, the treatment of the writes,
the place of OAMDMA and the calls as turns are the model's (log 3, log 4, log 5, log 6, log 10). -/
def Obligations.CpuAccessIsThePortOperation : Prop :=
  (∀ (off : BitVec 13) (d : Byte) (s : State),
    let a : Word := 0x2000 + off.zeroExtend 16
    (∀ i, decodeCall (.portWrite off d) s.ppu.w = some i → exec i s = .next (memWrite a d s)) ∧
    (decodeCall (.portWrite off d) s.ppu.w = none → memWrite a d s = s) ∧
    (∀ i, decodeCall (.portRead off) s.ppu.w = some i →
      exec i s = .next { (memRead a s).2 with portData := (memRead a s).1 }) ∧
    (decodeCall (.portRead off) s.ppu.w = none →
      memRead a s = (Config.freeByte s.drawn, { s with drawn := s.drawn + 1 }))) ∧
  (∀ (d : Byte) (s : State),
    memWrite 0x4014 d s = s ∧ memRead 0x4014 s = (Config.freeByte s.drawn, { s with drawn := s.drawn + 1 })) ∧
  ∀ (off : BitVec 13) (d : Byte) (s : State) (ts : List Turn),
    (decodeCall (.portWrite off d) s.ppu.w = none →
      step { s with turns := .portWrite off d :: ts } = .next { s with turns := ts }) ∧
    (decodeCall (.portRead off) s.ppu.w = none →
      step { s with turns := .portRead off :: ts } = .next
        { s with turns := ts, drawn := s.drawn + 1, portData := Config.freeByte s.drawn })

/-- The host's functions and the scanline agent's flag, each as a turn: power-on and reset of the PPU, the power-on of the CPU, the
vblank flag (70_reset_and_hazards.md R350, R351, R352; 49_ppu_vt.md R301). That each is a turn is the model's choice (log 4); that
the CPU power-on is one, and that each changes nothing but what its rule names, is the model's reading (log 16); the unspecified bits
after a reset are free bits (log 3). -/
def Obligations.PowerOnResetAndVblank : Prop :=
  ∀ (s : State) (ts : List Turn),
    step { s with turns := .powerResetState false :: ts } = .next
      { s with turns := ts, ppu := { v := 0, t := 0, fx := 0, w := false, ppuctrl := 0, ppustatus := 0xA0 } } ∧
    (∃ st : Byte, st.getLsbD 7 = s.ppu.ppustatus.getLsbD 7 ∧
      st.extractLsb' 0 7 = (Config.freeByte s.drawn).extractLsb' 0 7 ∧ step { s with turns := .powerResetState true :: ts } = .next
      { s with
        turns := ts, drawn := s.drawn + 1
        ppu := { v := s.ppu.v, t := 0, fx := 0, w := false, ppuctrl := 0, ppustatus := st } }) ∧
    (∃ st : Byte, st.getLsbD 7 = true ∧ st.extractLsb' 0 7 = s.ppu.ppustatus.extractLsb' 0 7 ∧
      step { s with turns := .setVblank :: ts } = .next { s with turns := ts, ppu := { s.ppu with ppustatus := st } }) ∧
    (∀ init, step { s with turns := .cpuPowerOn init :: ts } = .next
      { s with
        turns := ts, a := init.a, x := init.x, y := init.y, s := init.s, pc := init.pc
        ps := flagsOf init.ps (init.ps.getLsbD 4) })

/-- The state the host creates at power-on: the CPU registers are the launch's, the PPU registers have the power-on values, and the
first read of `$2002` returns 0xA0 and leaves 0x20 (70_reset_and_hazards.md R351; 10_state.md R41). -/
def Obligations.PowerOnValues : Prop :=
  ∀ init cpuMem ppuMem cfg,
    let s := State.powerOn init cpuMem ppuMem cfg
    s.a = init.a ∧ s.x = init.x ∧ s.y = init.y ∧ s.s = init.s ∧ s.pc = init.pc ∧
    s.ps = flagsOf init.ps (init.ps.getLsbD 4) ∧ (flags s).getLsbD 5 = true ∧
    s.ppu = { v := 0, t := 0, fx := 0, w := false, ppuctrl := 0, ppustatus := 0xA0 } ∧ s.cpuMem = cpuMem ∧ s.ppuMem = ppuMem ∧
    (memRead 0x2002 s).1 = 0xA0 ∧ (memRead 0x2002 s).2.ppu.ppustatus = 0x20

/-! ### Frames of the whole machine -/

/-- A flag changes only in the operations that the rules list for it (10_state.md R32, R24 to R30). -/
def Obligations.FlagsChangeOnlyWhereListed : Prop :=
  ∀ (i : Instr) (s t : State), exec i s = .next t →
    (t.ps.c ≠ s.ps.c → writesC i = true) ∧ (t.ps.z ≠ s.ps.z → writesZ i = true) ∧ (t.ps.n ≠ s.ps.n → writesZ i = true) ∧
    (t.ps.vf ≠ s.ps.vf → writesV i = true) ∧ (t.ps.i ≠ s.ps.i → writesI i = true) ∧
    (t.ps.d ≠ s.ps.d → writesD i = true) ∧ (t.ps.b ≠ s.ps.b → writesB i = true)

/-- A register changes only in the operations that the rules list for it (10_state.md R20, R21, R22). -/
def Obligations.RegistersChangeOnlyWhereListed : Prop :=
  ∀ (i : Instr) (s t : State), exec i s = .next t →
    (t.a ≠ s.a → writesA i = true) ∧ (t.x ≠ s.x → writesX i = true) ∧ (t.y ≠ s.y → writesY i = true) ∧
    (t.s ≠ s.s → writesS i = true) ∧ (t.pc ≠ s.pc → writesPc i = true)

/-- What a store leaves alone. A store to a memory operand changes no byte of storage but the one at `ea`, the address the resolver gives,
and PPU memory only through `$2007`; a push changes no byte but the stack bytes it writes (20_memory.md R54, R60; 40_addressing.md
R126; 00_scope.md R11). -/
def Obligations.StoresWriteNothingElse : Prop :=
  (∀ (m : MemMode) (s : State), ∀ i ∈ storeForms m, ∃ t, exec i s = .next t ∧
    (∀ a, regionOf a ≠ regionOf (resolve m s).ea → peek a t = peek a s) ∧
    (regionOf (resolve m s).ea ≠ .port .ppudata → t.ppuMem = s.ppuMem)) ∧
  (∀ s : State, ∀ i ∈ [Instr.pha, .php], ∃ t, exec i s = .next t ∧ t.ppuMem = s.ppuMem ∧
    ∀ a, regionOf a ≠ .cell (stackCell s.s) → peek a t = peek a s) ∧
  (∀ (s : State) (w : Word), ∃ t, exec (.jsr w) s = .next t ∧ t.ppuMem = s.ppuMem ∧
    ∀ a, regionOf a ≠ .cell (stackCell s.s) → regionOf a ≠ .cell (stackCell (s.s - 1)) → peek a t = peek a s) ∧
  (∀ s : State, ∀ i ∈ [Instr.brk, .interruptBrk, .interruptIrq, .interruptReset, .interruptNmi], ∃ t, exec i s = .next t ∧
    t.ppuMem = s.ppuMem ∧ (t.ppu = s.ppu) ∧
    ∀ a, regionOf a ≠ .cell (stackCell s.s) → regionOf a ≠ .cell (stackCell (s.s - 1)) →
      regionOf a ≠ .cell (stackCell (s.s - 2)) → peek a t = peek a s)

/-- An instruction that stores nothing leaves every byte of both memories alone (20_memory.md R60). -/
def Obligations.OtherInstructionsStoreNothing : Prop :=
  ∀ (i : Instr) (s t : State), stores i = false → exec i s = .next t →
    (∀ a, peek a t = peek a s) ∧ t.cpuMem = s.cpuMem ∧ t.ppuMem = s.ppuMem

end
end

