-- ==== Sys2Proof/Laws/Decode.lean ====
section
/-! SUPPORT. The decode table is full, and the two tables of the opcode map agree. -/

namespace Sys2Proof

/-- The opcode grid has 16 rows of 16 entries, so `entryOf` never takes a default (30_encoding.md R83). -/
theorem opcodeGrid_full : opcodeGrid.map List.length = List.replicate 16 16 := rfl

theorem word_toNat (h l : Byte) : (word h l).toNat = h.toNat * 256 + l.toNat := by
  have := h.isLt
  have := l.isLt
  rw [word, BitVec.toNat_append, ← Nat.shiftLeft_add_eq_or_of_lt (by omega), Nat.shiftLeft_eq]

theorem hi_toNat (w : Word) : (hi w).toNat = w.toNat / 256 := by
  have := w.isLt
  simp only [hi, BitVec.extractLsb'_toNat, Nat.shiftRight_eq_div_pow]
  omega

theorem lo_toNat (w : Word) : (lo w).toNat = w.toNat % 256 := by
  simp [lo, BitVec.extractLsb'_toNat]

@[simp] theorem word_hi_lo (w : Word) : word (hi w) (lo w) = w := by
  apply BitVec.eq_of_toNat_eq
  rw [word_toNat, hi_toNat, lo_toNat]
  omega

@[simp] theorem hi_word (h l : Byte) : hi (word h l) = h := by
  apply BitVec.eq_of_toNat_eq
  have := l.isLt
  rw [hi_toNat, word_toNat]
  omega

@[simp] theorem lo_word (h l : Byte) : lo (word h l) = l := by
  apply BitVec.eq_of_toNat_eq
  have := l.isLt
  rw [lo_toNat, word_toNat]
  omega

/-- An entry of format F1 is decoded without operand bytes. -/
theorem decode_f1 {op : Byte} (h : (entryOf op).fmt = .f1) (rest : List Byte) :
    decode (op :: rest) = .ok ((entryOf op).build 0 0, rest) := by simp [decode, h]

/-- An entry of format F2 takes one operand byte. -/
theorem decode_f2 {op : Byte} (h : (entryOf op).fmt = .f2) (b1 : Byte) (rest : List Byte) :
    decode (op :: b1 :: rest) = .ok ((entryOf op).build b1 0, rest) := by simp [decode, h]

/-- An entry of format F3 takes two operand bytes. -/
theorem decode_f3 {op : Byte} (h : (entryOf op).fmt = .f3) (b1 b2 : Byte) (rest : List Byte) :
    decode (op :: b1 :: b2 :: rest) = .ok ((entryOf op).build b1 b2, rest) := by simp [decode, h]

/-- Every entry of the decode table builds a well-formed instruction that has the entry's opcode byte and operand bytes. -/
theorem entryOf_build (op b1 b2 : Byte) :
    ((entryOf op).build b1 b2).opcode = some op ∧ ((entryOf op).build b1 b2).wf = true ∧
    ((entryOf op).build b1 b2).operandBytes =
      (match (entryOf op).fmt with
       | .f1 => []
       | .f2 => [b1]
       | .f3 => [b1, b2]) := by
  obtain ⟨n⟩ := op
  fin_cases n
  all_goals first
    | exact ⟨rfl, rfl, rfl⟩
    | exact ⟨rfl, rfl, congrArg₂ (fun x y : Byte => [x, y]) (lo_word b2 b1) (hi_word b2 b1)⟩

end Sys2Proof
end

