-- ==== Sys2Proof/Laws/Memory.lean ====
section
/-! SUPPORT. The laws of the memory representation: read after write, the canonical form, and that it makes equal memories equal data. -/

namespace Sys2Proof.Machine

namespace Memory

@[simp] theorem get_nil (a : Nat) : get [] a = Config.unlistedByte := rfl

theorem get_cons (k : Nat) (v : Byte) (m : Memory) (a : Nat) :
    get ((k, v) :: m) a = if k = a then v else get m a := rfl

/-- A location below every listed one is not listed. -/
theorem get_of_above {m : Memory} {k a : Nat} (h : above k m = true) (ha : a ≤ k) : get m a = Config.unlistedByte := by
  induction m with
  | nil => rfl
  | cons c m ih =>
    obtain ⟨j, v⟩ := c
    simp only [above, List.all_cons, Bool.and_eq_true, decide_eq_true_eq] at h
    rw [get_cons, if_neg (by omega)]
    exact ih (by simpa [above] using h.2)

theorem above_mono {m : Memory} {j k : Nat} (hjk : j ≤ k) (h : above k m = true) : above j m = true := by
  simp only [above, List.all_eq_true, decide_eq_true_eq] at h ⊢
  exact fun c hc => by have := h c hc; omega

/-- A write leaves every other location alone: 20_memory.md R61. -/
theorem get_set_other (m : Memory) {a b : Nat} (v : Byte) (h : b ≠ a) : get (set m a v) b = get m b := by
  induction m with
  | nil =>
    simp only [set]
    split
    · rfl
    · rw [get_cons, if_neg (Ne.symm h)]
  | cons c m ih =>
    obtain ⟨k, u⟩ := c
    simp only [set]
    split
    · split
      · rfl
      · rw [get_cons, if_neg (Ne.symm h)]
    · split
      · next hk =>
        subst hk
        split
        · rw [get_cons, if_neg (Ne.symm h)]
        · rw [get_cons, get_cons, if_neg (Ne.symm h), if_neg (Ne.symm h)]
      · rw [get_cons, get_cons, ih]

theorem wf_cons {k : Nat} {v : Byte} {m : Memory} :
    wf ((k, v) :: m) = true ↔ v ≠ Config.unlistedByte ∧ above k m = true ∧ wf m = true := by
  simp [wf, and_assoc]

/-- A read after a write of the same location gives the value written: 20_memory.md R61. -/
theorem get_set_same {m : Memory} (hm : wf m = true) (a : Nat) (v : Byte) : get (set m a v) a = v := by
  induction m with
  | nil =>
    simp only [set]
    split
    · next h => exact h.symm
    · simp [get_cons]
  | cons c m ih =>
    obtain ⟨k, u⟩ := c
    obtain ⟨-, hk, hw⟩ := wf_cons.mp hm
    simp only [set]
    split
    · next hlt =>
      split
      · next h =>
        rw [get_cons, if_neg (by omega), get_of_above hk (by omega)]
        exact h.symm
      · simp [get_cons]
    · split
      · next hka =>
        subst hka
        split
        · next h => rw [get_of_above hk (by omega)]; exact h.symm
        · simp [get_cons]
      · next hne =>
        rw [get_cons, if_neg hne]
        exact ih hw

/-- A write lists nothing but the location written. -/
theorem set_all {p : Nat → Bool} {m : Memory} (a : Nat) (v : Byte) (hm : m.all (fun c => p c.1) = true) (ha : p a = true) :
    (set m a v).all (fun c => p c.1) = true := by
  induction m with
  | nil =>
    simp only [set]
    split <;> simp [ha]
  | cons c m ih =>
    obtain ⟨k, u⟩ := c
    simp only [List.all_cons, Bool.and_eq_true] at hm
    simp only [set]
    split
    · split <;> simp [ha, hm.1, hm.2]
    · split
      · split <;> simp [ha, hm.2]
      · simp [hm.1, ih hm.2]

theorem above_set {m : Memory} {k a : Nat} (v : Byte) (h : above k m = true) (ha : k < a) : above k (set m a v) = true :=
  set_all (p := fun j => decide (k < j)) a v h (by simpa using ha)

/-- A write keeps the canonical form. -/
theorem wf_set {m : Memory} (hm : wf m = true) (a : Nat) (v : Byte) : wf (set m a v) = true := by
  induction m with
  | nil =>
    simp only [set]
    split
    · rfl
    · next h => exact wf_cons.mpr ⟨h, rfl, rfl⟩
  | cons c m ih =>
    obtain ⟨k, u⟩ := c
    obtain ⟨hu, hk, hw⟩ := wf_cons.mp hm
    simp only [set]
    split
    · next hlt =>
      split
      · exact hm
      · next h =>
        refine wf_cons.mpr ⟨h, ?_, hm⟩
        simp only [above, List.all_cons, Bool.and_eq_true, decide_eq_true_eq]
        exact ⟨hlt, above_mono (by omega) hk⟩
    · split
      · next hka =>
        subst hka
        split
        · exact hw
        · next h => exact wf_cons.mpr ⟨h, hk, hw⟩
      · next hne => exact wf_cons.mpr ⟨hu, above_set v hk (by omega), ih hw⟩

/-- Two memories in canonical form that read the same are the same list. -/
theorem ext_of_wf {m n : Memory} (hm : wf m = true) (hn : wf n = true) (h : ∀ a, get m a = get n a) : m = n := by
  induction m generalizing n with
  | nil =>
    cases n with
    | nil => rfl
    | cons c n =>
      obtain ⟨k, v⟩ := c
      have := h k
      simp only [get_nil, get_cons, if_true] at this
      exact absurd this.symm (wf_cons.mp hn).1
  | cons c m ih =>
    obtain ⟨k, v⟩ := c
    obtain ⟨hv, hk, hw⟩ := wf_cons.mp hm
    cases n with
    | nil =>
      have := h k
      simp only [get_nil, get_cons, if_true] at this
      exact absurd this hv
    | cons d n =>
      obtain ⟨j, u⟩ := d
      obtain ⟨hu, hj, hx⟩ := wf_cons.mp hn
      have hkj : k = j := by
        rcases Nat.lt_trichotomy k j with hlt | heq | hgt
        · have := h k
          rw [get_cons, if_pos rfl, get_cons, if_neg (by omega), get_of_above hj (by omega)] at this
          exact absurd this hv
        · exact heq
        · have := h j
          rw [get_cons, if_neg (by omega), get_of_above hk (by omega), get_cons, if_pos rfl] at this
          exact absurd this.symm hu
      subst hkj
      have hvu : v = u := by simpa [get_cons] using h k
      subst hvu
      congr 1
      refine ih hw hx fun a => ?_
      by_cases ha : k = a
      · subst ha
        rw [get_of_above hk (by omega), get_of_above hj (by omega)]
      · simpa [get_cons, ha] using h a

end Memory

end Sys2Proof.Machine
end

