-- ==== Sys2Proof/Laws/State.lean ====
section
/-! SUPPORT. One lemma for each field and each update of State. -/

namespace Sys2Proof.Machine

@[simp] theorem State.setA_a (m : State) (v : Byte) : (m.setA v).a = v := rfl
@[simp] theorem State.setA_x (m : State) (v : Byte) : (m.setA v).x = m.x := rfl
@[simp] theorem State.setA_y (m : State) (v : Byte) : (m.setA v).y = m.y := rfl
@[simp] theorem State.setA_s (m : State) (v : Byte) : (m.setA v).s = m.s := rfl
@[simp] theorem State.setA_pc (m : State) (v : Byte) : (m.setA v).pc = m.pc := rfl
@[simp] theorem State.setA_ps (m : State) (v : Byte) : (m.setA v).ps = m.ps := rfl
@[simp] theorem State.setA_ppu (m : State) (v : Byte) : (m.setA v).ppu = m.ppu := rfl
@[simp] theorem State.setA_cpuMem (m : State) (v : Byte) : (m.setA v).cpuMem = m.cpuMem := rfl
@[simp] theorem State.setA_ppuMem (m : State) (v : Byte) : (m.setA v).ppuMem = m.ppuMem := rfl
@[simp] theorem State.setA_drawn (m : State) (v : Byte) : (m.setA v).drawn = m.drawn := rfl
@[simp] theorem State.setA_turns (m : State) (v : Byte) : (m.setA v).turns = m.turns := rfl
@[simp] theorem State.setA_cycles (m : State) (v : Byte) : (m.setA v).cycles = m.cycles := rfl
@[simp] theorem State.setA_portData (m : State) (v : Byte) : (m.setA v).portData = m.portData := rfl
@[simp] theorem State.setA_cfg (m : State) (v : Byte) : (m.setA v).cfg = m.cfg := rfl

@[simp] theorem State.setX_a (m : State) (v : Byte) : (m.setX v).a = m.a := rfl
@[simp] theorem State.setX_x (m : State) (v : Byte) : (m.setX v).x = v := rfl
@[simp] theorem State.setX_y (m : State) (v : Byte) : (m.setX v).y = m.y := rfl
@[simp] theorem State.setX_s (m : State) (v : Byte) : (m.setX v).s = m.s := rfl
@[simp] theorem State.setX_pc (m : State) (v : Byte) : (m.setX v).pc = m.pc := rfl
@[simp] theorem State.setX_ps (m : State) (v : Byte) : (m.setX v).ps = m.ps := rfl
@[simp] theorem State.setX_ppu (m : State) (v : Byte) : (m.setX v).ppu = m.ppu := rfl
@[simp] theorem State.setX_cpuMem (m : State) (v : Byte) : (m.setX v).cpuMem = m.cpuMem := rfl
@[simp] theorem State.setX_ppuMem (m : State) (v : Byte) : (m.setX v).ppuMem = m.ppuMem := rfl
@[simp] theorem State.setX_drawn (m : State) (v : Byte) : (m.setX v).drawn = m.drawn := rfl
@[simp] theorem State.setX_turns (m : State) (v : Byte) : (m.setX v).turns = m.turns := rfl
@[simp] theorem State.setX_cycles (m : State) (v : Byte) : (m.setX v).cycles = m.cycles := rfl
@[simp] theorem State.setX_portData (m : State) (v : Byte) : (m.setX v).portData = m.portData := rfl
@[simp] theorem State.setX_cfg (m : State) (v : Byte) : (m.setX v).cfg = m.cfg := rfl

@[simp] theorem State.setY_a (m : State) (v : Byte) : (m.setY v).a = m.a := rfl
@[simp] theorem State.setY_x (m : State) (v : Byte) : (m.setY v).x = m.x := rfl
@[simp] theorem State.setY_y (m : State) (v : Byte) : (m.setY v).y = v := rfl
@[simp] theorem State.setY_s (m : State) (v : Byte) : (m.setY v).s = m.s := rfl
@[simp] theorem State.setY_pc (m : State) (v : Byte) : (m.setY v).pc = m.pc := rfl
@[simp] theorem State.setY_ps (m : State) (v : Byte) : (m.setY v).ps = m.ps := rfl
@[simp] theorem State.setY_ppu (m : State) (v : Byte) : (m.setY v).ppu = m.ppu := rfl
@[simp] theorem State.setY_cpuMem (m : State) (v : Byte) : (m.setY v).cpuMem = m.cpuMem := rfl
@[simp] theorem State.setY_ppuMem (m : State) (v : Byte) : (m.setY v).ppuMem = m.ppuMem := rfl
@[simp] theorem State.setY_drawn (m : State) (v : Byte) : (m.setY v).drawn = m.drawn := rfl
@[simp] theorem State.setY_turns (m : State) (v : Byte) : (m.setY v).turns = m.turns := rfl
@[simp] theorem State.setY_cycles (m : State) (v : Byte) : (m.setY v).cycles = m.cycles := rfl
@[simp] theorem State.setY_portData (m : State) (v : Byte) : (m.setY v).portData = m.portData := rfl
@[simp] theorem State.setY_cfg (m : State) (v : Byte) : (m.setY v).cfg = m.cfg := rfl

@[simp] theorem State.setS_a (m : State) (v : Byte) : (m.setS v).a = m.a := rfl
@[simp] theorem State.setS_x (m : State) (v : Byte) : (m.setS v).x = m.x := rfl
@[simp] theorem State.setS_y (m : State) (v : Byte) : (m.setS v).y = m.y := rfl
@[simp] theorem State.setS_s (m : State) (v : Byte) : (m.setS v).s = v := rfl
@[simp] theorem State.setS_pc (m : State) (v : Byte) : (m.setS v).pc = m.pc := rfl
@[simp] theorem State.setS_ps (m : State) (v : Byte) : (m.setS v).ps = m.ps := rfl
@[simp] theorem State.setS_ppu (m : State) (v : Byte) : (m.setS v).ppu = m.ppu := rfl
@[simp] theorem State.setS_cpuMem (m : State) (v : Byte) : (m.setS v).cpuMem = m.cpuMem := rfl
@[simp] theorem State.setS_ppuMem (m : State) (v : Byte) : (m.setS v).ppuMem = m.ppuMem := rfl
@[simp] theorem State.setS_drawn (m : State) (v : Byte) : (m.setS v).drawn = m.drawn := rfl
@[simp] theorem State.setS_turns (m : State) (v : Byte) : (m.setS v).turns = m.turns := rfl
@[simp] theorem State.setS_cycles (m : State) (v : Byte) : (m.setS v).cycles = m.cycles := rfl
@[simp] theorem State.setS_portData (m : State) (v : Byte) : (m.setS v).portData = m.portData := rfl
@[simp] theorem State.setS_cfg (m : State) (v : Byte) : (m.setS v).cfg = m.cfg := rfl

@[simp] theorem State.setPc_a (m : State) (v : Word) : (m.setPc v).a = m.a := rfl
@[simp] theorem State.setPc_x (m : State) (v : Word) : (m.setPc v).x = m.x := rfl
@[simp] theorem State.setPc_y (m : State) (v : Word) : (m.setPc v).y = m.y := rfl
@[simp] theorem State.setPc_s (m : State) (v : Word) : (m.setPc v).s = m.s := rfl
@[simp] theorem State.setPc_pc (m : State) (v : Word) : (m.setPc v).pc = v := rfl
@[simp] theorem State.setPc_ps (m : State) (v : Word) : (m.setPc v).ps = m.ps := rfl
@[simp] theorem State.setPc_ppu (m : State) (v : Word) : (m.setPc v).ppu = m.ppu := rfl
@[simp] theorem State.setPc_cpuMem (m : State) (v : Word) : (m.setPc v).cpuMem = m.cpuMem := rfl
@[simp] theorem State.setPc_ppuMem (m : State) (v : Word) : (m.setPc v).ppuMem = m.ppuMem := rfl
@[simp] theorem State.setPc_drawn (m : State) (v : Word) : (m.setPc v).drawn = m.drawn := rfl
@[simp] theorem State.setPc_turns (m : State) (v : Word) : (m.setPc v).turns = m.turns := rfl
@[simp] theorem State.setPc_cycles (m : State) (v : Word) : (m.setPc v).cycles = m.cycles := rfl
@[simp] theorem State.setPc_portData (m : State) (v : Word) : (m.setPc v).portData = m.portData := rfl
@[simp] theorem State.setPc_cfg (m : State) (v : Word) : (m.setPc v).cfg = m.cfg := rfl

@[simp] theorem State.setPs_a (m : State) (v : Status) : (m.setPs v).a = m.a := rfl
@[simp] theorem State.setPs_x (m : State) (v : Status) : (m.setPs v).x = m.x := rfl
@[simp] theorem State.setPs_y (m : State) (v : Status) : (m.setPs v).y = m.y := rfl
@[simp] theorem State.setPs_s (m : State) (v : Status) : (m.setPs v).s = m.s := rfl
@[simp] theorem State.setPs_pc (m : State) (v : Status) : (m.setPs v).pc = m.pc := rfl
@[simp] theorem State.setPs_ps (m : State) (v : Status) : (m.setPs v).ps = v := rfl
@[simp] theorem State.setPs_ppu (m : State) (v : Status) : (m.setPs v).ppu = m.ppu := rfl
@[simp] theorem State.setPs_cpuMem (m : State) (v : Status) : (m.setPs v).cpuMem = m.cpuMem := rfl
@[simp] theorem State.setPs_ppuMem (m : State) (v : Status) : (m.setPs v).ppuMem = m.ppuMem := rfl
@[simp] theorem State.setPs_drawn (m : State) (v : Status) : (m.setPs v).drawn = m.drawn := rfl
@[simp] theorem State.setPs_turns (m : State) (v : Status) : (m.setPs v).turns = m.turns := rfl
@[simp] theorem State.setPs_cycles (m : State) (v : Status) : (m.setPs v).cycles = m.cycles := rfl
@[simp] theorem State.setPs_portData (m : State) (v : Status) : (m.setPs v).portData = m.portData := rfl
@[simp] theorem State.setPs_cfg (m : State) (v : Status) : (m.setPs v).cfg = m.cfg := rfl

@[simp] theorem State.setPpu_a (m : State) (v : Ppu) : (m.setPpu v).a = m.a := rfl
@[simp] theorem State.setPpu_x (m : State) (v : Ppu) : (m.setPpu v).x = m.x := rfl
@[simp] theorem State.setPpu_y (m : State) (v : Ppu) : (m.setPpu v).y = m.y := rfl
@[simp] theorem State.setPpu_s (m : State) (v : Ppu) : (m.setPpu v).s = m.s := rfl
@[simp] theorem State.setPpu_pc (m : State) (v : Ppu) : (m.setPpu v).pc = m.pc := rfl
@[simp] theorem State.setPpu_ps (m : State) (v : Ppu) : (m.setPpu v).ps = m.ps := rfl
@[simp] theorem State.setPpu_ppu (m : State) (v : Ppu) : (m.setPpu v).ppu = v := rfl
@[simp] theorem State.setPpu_cpuMem (m : State) (v : Ppu) : (m.setPpu v).cpuMem = m.cpuMem := rfl
@[simp] theorem State.setPpu_ppuMem (m : State) (v : Ppu) : (m.setPpu v).ppuMem = m.ppuMem := rfl
@[simp] theorem State.setPpu_drawn (m : State) (v : Ppu) : (m.setPpu v).drawn = m.drawn := rfl
@[simp] theorem State.setPpu_turns (m : State) (v : Ppu) : (m.setPpu v).turns = m.turns := rfl
@[simp] theorem State.setPpu_cycles (m : State) (v : Ppu) : (m.setPpu v).cycles = m.cycles := rfl
@[simp] theorem State.setPpu_portData (m : State) (v : Ppu) : (m.setPpu v).portData = m.portData := rfl
@[simp] theorem State.setPpu_cfg (m : State) (v : Ppu) : (m.setPpu v).cfg = m.cfg := rfl

@[simp] theorem State.setCpuMem_a (m : State) (v : Memory) : (m.setCpuMem v).a = m.a := rfl
@[simp] theorem State.setCpuMem_x (m : State) (v : Memory) : (m.setCpuMem v).x = m.x := rfl
@[simp] theorem State.setCpuMem_y (m : State) (v : Memory) : (m.setCpuMem v).y = m.y := rfl
@[simp] theorem State.setCpuMem_s (m : State) (v : Memory) : (m.setCpuMem v).s = m.s := rfl
@[simp] theorem State.setCpuMem_pc (m : State) (v : Memory) : (m.setCpuMem v).pc = m.pc := rfl
@[simp] theorem State.setCpuMem_ps (m : State) (v : Memory) : (m.setCpuMem v).ps = m.ps := rfl
@[simp] theorem State.setCpuMem_ppu (m : State) (v : Memory) : (m.setCpuMem v).ppu = m.ppu := rfl
@[simp] theorem State.setCpuMem_cpuMem (m : State) (v : Memory) : (m.setCpuMem v).cpuMem = v := rfl
@[simp] theorem State.setCpuMem_ppuMem (m : State) (v : Memory) : (m.setCpuMem v).ppuMem = m.ppuMem := rfl
@[simp] theorem State.setCpuMem_drawn (m : State) (v : Memory) : (m.setCpuMem v).drawn = m.drawn := rfl
@[simp] theorem State.setCpuMem_turns (m : State) (v : Memory) : (m.setCpuMem v).turns = m.turns := rfl
@[simp] theorem State.setCpuMem_cycles (m : State) (v : Memory) : (m.setCpuMem v).cycles = m.cycles := rfl
@[simp] theorem State.setCpuMem_portData (m : State) (v : Memory) : (m.setCpuMem v).portData = m.portData := rfl
@[simp] theorem State.setCpuMem_cfg (m : State) (v : Memory) : (m.setCpuMem v).cfg = m.cfg := rfl

@[simp] theorem State.setPpuMem_a (m : State) (v : Memory) : (m.setPpuMem v).a = m.a := rfl
@[simp] theorem State.setPpuMem_x (m : State) (v : Memory) : (m.setPpuMem v).x = m.x := rfl
@[simp] theorem State.setPpuMem_y (m : State) (v : Memory) : (m.setPpuMem v).y = m.y := rfl
@[simp] theorem State.setPpuMem_s (m : State) (v : Memory) : (m.setPpuMem v).s = m.s := rfl
@[simp] theorem State.setPpuMem_pc (m : State) (v : Memory) : (m.setPpuMem v).pc = m.pc := rfl
@[simp] theorem State.setPpuMem_ps (m : State) (v : Memory) : (m.setPpuMem v).ps = m.ps := rfl
@[simp] theorem State.setPpuMem_ppu (m : State) (v : Memory) : (m.setPpuMem v).ppu = m.ppu := rfl
@[simp] theorem State.setPpuMem_cpuMem (m : State) (v : Memory) : (m.setPpuMem v).cpuMem = m.cpuMem := rfl
@[simp] theorem State.setPpuMem_ppuMem (m : State) (v : Memory) : (m.setPpuMem v).ppuMem = v := rfl
@[simp] theorem State.setPpuMem_drawn (m : State) (v : Memory) : (m.setPpuMem v).drawn = m.drawn := rfl
@[simp] theorem State.setPpuMem_turns (m : State) (v : Memory) : (m.setPpuMem v).turns = m.turns := rfl
@[simp] theorem State.setPpuMem_cycles (m : State) (v : Memory) : (m.setPpuMem v).cycles = m.cycles := rfl
@[simp] theorem State.setPpuMem_portData (m : State) (v : Memory) : (m.setPpuMem v).portData = m.portData := rfl
@[simp] theorem State.setPpuMem_cfg (m : State) (v : Memory) : (m.setPpuMem v).cfg = m.cfg := rfl

@[simp] theorem State.setDrawn_a (m : State) (v : Nat) : (m.setDrawn v).a = m.a := rfl
@[simp] theorem State.setDrawn_x (m : State) (v : Nat) : (m.setDrawn v).x = m.x := rfl
@[simp] theorem State.setDrawn_y (m : State) (v : Nat) : (m.setDrawn v).y = m.y := rfl
@[simp] theorem State.setDrawn_s (m : State) (v : Nat) : (m.setDrawn v).s = m.s := rfl
@[simp] theorem State.setDrawn_pc (m : State) (v : Nat) : (m.setDrawn v).pc = m.pc := rfl
@[simp] theorem State.setDrawn_ps (m : State) (v : Nat) : (m.setDrawn v).ps = m.ps := rfl
@[simp] theorem State.setDrawn_ppu (m : State) (v : Nat) : (m.setDrawn v).ppu = m.ppu := rfl
@[simp] theorem State.setDrawn_cpuMem (m : State) (v : Nat) : (m.setDrawn v).cpuMem = m.cpuMem := rfl
@[simp] theorem State.setDrawn_ppuMem (m : State) (v : Nat) : (m.setDrawn v).ppuMem = m.ppuMem := rfl
@[simp] theorem State.setDrawn_drawn (m : State) (v : Nat) : (m.setDrawn v).drawn = v := rfl
@[simp] theorem State.setDrawn_turns (m : State) (v : Nat) : (m.setDrawn v).turns = m.turns := rfl
@[simp] theorem State.setDrawn_cycles (m : State) (v : Nat) : (m.setDrawn v).cycles = m.cycles := rfl
@[simp] theorem State.setDrawn_portData (m : State) (v : Nat) : (m.setDrawn v).portData = m.portData := rfl
@[simp] theorem State.setDrawn_cfg (m : State) (v : Nat) : (m.setDrawn v).cfg = m.cfg := rfl

@[simp] theorem State.setTurns_a (m : State) (v : List Turn) : (m.setTurns v).a = m.a := rfl
@[simp] theorem State.setTurns_x (m : State) (v : List Turn) : (m.setTurns v).x = m.x := rfl
@[simp] theorem State.setTurns_y (m : State) (v : List Turn) : (m.setTurns v).y = m.y := rfl
@[simp] theorem State.setTurns_s (m : State) (v : List Turn) : (m.setTurns v).s = m.s := rfl
@[simp] theorem State.setTurns_pc (m : State) (v : List Turn) : (m.setTurns v).pc = m.pc := rfl
@[simp] theorem State.setTurns_ps (m : State) (v : List Turn) : (m.setTurns v).ps = m.ps := rfl
@[simp] theorem State.setTurns_ppu (m : State) (v : List Turn) : (m.setTurns v).ppu = m.ppu := rfl
@[simp] theorem State.setTurns_cpuMem (m : State) (v : List Turn) : (m.setTurns v).cpuMem = m.cpuMem := rfl
@[simp] theorem State.setTurns_ppuMem (m : State) (v : List Turn) : (m.setTurns v).ppuMem = m.ppuMem := rfl
@[simp] theorem State.setTurns_drawn (m : State) (v : List Turn) : (m.setTurns v).drawn = m.drawn := rfl
@[simp] theorem State.setTurns_turns (m : State) (v : List Turn) : (m.setTurns v).turns = v := rfl
@[simp] theorem State.setTurns_cycles (m : State) (v : List Turn) : (m.setTurns v).cycles = m.cycles := rfl
@[simp] theorem State.setTurns_portData (m : State) (v : List Turn) : (m.setTurns v).portData = m.portData := rfl
@[simp] theorem State.setTurns_cfg (m : State) (v : List Turn) : (m.setTurns v).cfg = m.cfg := rfl

@[simp] theorem State.setCycles_a (m : State) (v : Nat) : (m.setCycles v).a = m.a := rfl
@[simp] theorem State.setCycles_x (m : State) (v : Nat) : (m.setCycles v).x = m.x := rfl
@[simp] theorem State.setCycles_y (m : State) (v : Nat) : (m.setCycles v).y = m.y := rfl
@[simp] theorem State.setCycles_s (m : State) (v : Nat) : (m.setCycles v).s = m.s := rfl
@[simp] theorem State.setCycles_pc (m : State) (v : Nat) : (m.setCycles v).pc = m.pc := rfl
@[simp] theorem State.setCycles_ps (m : State) (v : Nat) : (m.setCycles v).ps = m.ps := rfl
@[simp] theorem State.setCycles_ppu (m : State) (v : Nat) : (m.setCycles v).ppu = m.ppu := rfl
@[simp] theorem State.setCycles_cpuMem (m : State) (v : Nat) : (m.setCycles v).cpuMem = m.cpuMem := rfl
@[simp] theorem State.setCycles_ppuMem (m : State) (v : Nat) : (m.setCycles v).ppuMem = m.ppuMem := rfl
@[simp] theorem State.setCycles_drawn (m : State) (v : Nat) : (m.setCycles v).drawn = m.drawn := rfl
@[simp] theorem State.setCycles_turns (m : State) (v : Nat) : (m.setCycles v).turns = m.turns := rfl
@[simp] theorem State.setCycles_cycles (m : State) (v : Nat) : (m.setCycles v).cycles = v := rfl
@[simp] theorem State.setCycles_portData (m : State) (v : Nat) : (m.setCycles v).portData = m.portData := rfl
@[simp] theorem State.setCycles_cfg (m : State) (v : Nat) : (m.setCycles v).cfg = m.cfg := rfl

@[simp] theorem State.setPortData_a (m : State) (v : Byte) : (m.setPortData v).a = m.a := rfl
@[simp] theorem State.setPortData_x (m : State) (v : Byte) : (m.setPortData v).x = m.x := rfl
@[simp] theorem State.setPortData_y (m : State) (v : Byte) : (m.setPortData v).y = m.y := rfl
@[simp] theorem State.setPortData_s (m : State) (v : Byte) : (m.setPortData v).s = m.s := rfl
@[simp] theorem State.setPortData_pc (m : State) (v : Byte) : (m.setPortData v).pc = m.pc := rfl
@[simp] theorem State.setPortData_ps (m : State) (v : Byte) : (m.setPortData v).ps = m.ps := rfl
@[simp] theorem State.setPortData_ppu (m : State) (v : Byte) : (m.setPortData v).ppu = m.ppu := rfl
@[simp] theorem State.setPortData_cpuMem (m : State) (v : Byte) : (m.setPortData v).cpuMem = m.cpuMem := rfl
@[simp] theorem State.setPortData_ppuMem (m : State) (v : Byte) : (m.setPortData v).ppuMem = m.ppuMem := rfl
@[simp] theorem State.setPortData_drawn (m : State) (v : Byte) : (m.setPortData v).drawn = m.drawn := rfl
@[simp] theorem State.setPortData_turns (m : State) (v : Byte) : (m.setPortData v).turns = m.turns := rfl
@[simp] theorem State.setPortData_cycles (m : State) (v : Byte) : (m.setPortData v).cycles = m.cycles := rfl
@[simp] theorem State.setPortData_portData (m : State) (v : Byte) : (m.setPortData v).portData = v := rfl
@[simp] theorem State.setPortData_cfg (m : State) (v : Byte) : (m.setPortData v).cfg = m.cfg := rfl

@[simp] theorem State.powerOn_ppu (init : CpuInit) (c p : Memory) (cfg : Params) :
    (State.powerOn init c p cfg).ppu = Ppu.powerOn := rfl
@[simp] theorem State.powerOn_cpuMem (init : CpuInit) (c p : Memory) (cfg : Params) :
    (State.powerOn init c p cfg).cpuMem = c := rfl
@[simp] theorem State.powerOn_ppuMem (init : CpuInit) (c p : Memory) (cfg : Params) :
    (State.powerOn init c p cfg).ppuMem = p := rfl
@[simp] theorem State.powerOn_cfg (init : CpuInit) (c p : Memory) (cfg : Params) :
    (State.powerOn init c p cfg).cfg = cfg := rfl
@[simp] theorem State.powerOn_turns (init : CpuInit) (c p : Memory) (cfg : Params) :
    (State.powerOn init c p cfg).turns = [] := rfl

end Sys2Proof.Machine
end

