-- ==== Sys2Proof/Laws/Ops.lean ====
section
/-! SUPPORT. What each shared operation over memory, ports and the stack can do, said once. -/

namespace Sys2Proof.Machine

/-! ### Reads change the port engine only -/

theorem PortsOnly.refl (s : State) : PortsOnly s s := rfl

theorem PortsOnly.trans {s t u : State} (h : PortsOnly s t) (k : PortsOnly t u) : PortsOnly s u := by
  unfold PortsOnly at *
  rw [k, h]

theorem portsOnly_setPpu (s : State) (p : Ppu) : PortsOnly s (s.setPpu p) := rfl

theorem portsOnly_drawByte (s : State) : PortsOnly s (drawByte s).2 := rfl

section
variable {s t : State} (h : PortsOnly s t)
include h
theorem PortsOnly.a : t.a = s.a := by rw [h]
theorem PortsOnly.x : t.x = s.x := by rw [h]
theorem PortsOnly.y : t.y = s.y := by rw [h]
theorem PortsOnly.sp : t.s = s.s := by rw [h]
theorem PortsOnly.pc : t.pc = s.pc := by rw [h]
theorem PortsOnly.ps : t.ps = s.ps := by rw [h]
theorem PortsOnly.cpuMem : t.cpuMem = s.cpuMem := by rw [h]
theorem PortsOnly.ppuMem : t.ppuMem = s.ppuMem := by rw [h]
theorem PortsOnly.turns : t.turns = s.turns := by rw [h]
theorem PortsOnly.cycles : t.cycles = s.cycles := by rw [h]
theorem PortsOnly.portData : t.portData = s.portData := by rw [h]
theorem PortsOnly.cfg : t.cfg = s.cfg := by rw [h]
theorem PortsOnly.wf : t.wf = s.wf := by simp [State.wf, h.cpuMem, h.ppuMem, h.cfg]
end

theorem portRead_portsOnly (p : Port) (s : State) : PortsOnly s (portRead p s).2 := by cases p <;> rfl

theorem memRead_portsOnly (addr : Word) (s : State) : PortsOnly s (memRead addr s).2 := by
  unfold memRead
  cases regionOf addr with
  | cell k => rfl
  | port p => exact portRead_portsOnly p s
  | oamDma => rfl

/-- A read of storage has no side effect: 20_memory.md R59. -/
theorem memRead_cell {addr : Word} {k : Nat} (h : regionOf addr = .cell k) (s : State) :
    memRead addr s = (s.cpuMem.get k, s) := by simp [memRead, h]

theorem memRead_port {addr : Word} {p : Port} (h : regionOf addr = .port p) (s : State) :
    memRead addr s = portRead p s := by simp [memRead, h]

theorem memWrite_cell {addr : Word} {k : Nat} (h : regionOf addr = .cell k) (v : Byte) (s : State) :
    memWrite addr v s = s.setCpuMem (s.cpuMem.set k v) := by simp [memWrite, h]

theorem memWrite_port {addr : Word} {p : Port} (h : regionOf addr = .port p) (v : Byte) (s : State) :
    memWrite addr v s = portWrite p v s := by simp [memWrite, h]

theorem read16_portsOnly (addr : Word) (s : State) : PortsOnly s (read16 addr s).2 :=
  (memRead_portsOnly _ _).trans (memRead_portsOnly _ _)

theorem zpPointer_portsOnly (p : Byte) (s : State) : PortsOnly s (zpPointer p s).2 :=
  (memRead_portsOnly _ _).trans (memRead_portsOnly _ _)

theorem resolve_portsOnly (m : MemMode) (s : State) : PortsOnly s (resolve m s).st := by
  cases m with
  | zpXIndirect b1 => exact zpPointer_portsOnly _ _
  | zpIndirectY b1 => exact zpPointer_portsOnly _ _
  | _ => rfl

theorem resolveTarget_portsOnly (t : Target) (s : State) : PortsOnly s (resolveTarget t s).2 := by
  cases t with
  | absolute w => rfl
  | indirect p => exact (memRead_portsOnly _ _).trans (memRead_portsOnly _ _)

theorem readSource_portsOnly (o : Source) (s : State) : PortsOnly s (readSource o s).st := by
  cases o with
  | immediate b1 => rfl
  | memory m => exact (resolve_portsOnly m s).trans (memRead_portsOnly _ _)

/-! ### The CPU address map -/

theorem toNat_lt (w : Word) : w.toNat < 65536 := w.isLt

theorem regionOf_cell_loc {addr : Word} {k : Nat} (h : regionOf addr = .cell k) : cpuLocation k = true := by
  have hw := toNat_lt addr
  simp only [regionOf] at h
  split at h
  · simp only [Region.cell.injEq] at h
    simp [cpuLocation]; omega
  · split at h
    · cases h
    · split at h
      · cases h
      · simp only [Region.cell.injEq] at h
        simp [cpuLocation]; omega

theorem stackAddr_toNat (sp : Byte) : (stackAddr sp).toNat = 0x100 + sp.toNat := by
  rw [stackAddr, word_toNat]
  rfl

/-- The stack is page 1 of RAM: 10_state.md R21; 20_memory.md R55. -/
theorem regionOf_stackAddr (sp : Byte) : regionOf (stackAddr sp) = .cell (0x100 + sp.toNat) := by
  have h := sp.isLt
  simp only [regionOf, stackAddr_toNat]
  rw [if_pos (by omega)]
  congr 1
  omega

theorem push_eq (v : Byte) (s : State) :
    push v s = (s.setCpuMem (s.cpuMem.set (0x100 + s.s.toNat) v)).setS (s.s - 1) := by
  simp [push, memWrite_cell (regionOf_stackAddr s.s)]

theorem pull_eq (s : State) : pull s = (s.cpuMem.get (0x100 + (s.s + 1).toNat), s.setS (s.s + 1)) := by
  rw [pull]
  exact memRead_cell (regionOf_stackAddr (s.s + 1)) _

theorem pull_fst (s : State) : (pull s).1 = s.cpuMem.get (0x100 + (s.s + 1).toNat) := by rw [pull_eq]

theorem pull_snd (s : State) : (pull s).2 = s.setS (s.s + 1) := by rw [pull_eq]

theorem regionOf_vector (k : IntType) : regionOf (vector k) = .cell (vector k).toNat := by cases k <;> rfl

theorem regionOf_vector_succ (k : IntType) : regionOf (vector k + 1) = .cell ((vector k).toNat + 1) := by
  cases k <;> rfl

/-- Loading a vector reads two bytes of storage and changes nothing: 60_exceptions.md R325. -/
theorem read16_vector (k : IntType) (s : State) :
    read16 (vector k) s = (word (s.cpuMem.get ((vector k).toNat + 1)) (s.cpuMem.get (vector k).toNat), s) := by
  have h1 := memRead_cell (regionOf_vector k) s
  have h2 := memRead_cell (regionOf_vector_succ k) s
  unfold read16
  rw [h1]
  dsimp only
  rw [h2]

/-! ### Writes keep the invariant -/

theorem ntBacking_lt {m : List (Nat × Nat)} {k : Nat} (h : m.all (fun p => p.2 < 0x3F00) = true) (hk : k < 0x3F00) :
    ntBacking m k < 0x3F00 := by
  induction m with
  | nil => exact hk
  | cons c m ih =>
    obtain ⟨p, q⟩ := c
    simp only [List.all_cons, Bool.and_eq_true, decide_eq_true_eq] at h
    simp only [ntBacking]
    split
    · exact h.1
    · exact ih h.2

/-- The PPU's backing space is 16 KB: 20_memory.md R51. -/
theorem ppuBacking_lt {cfg : Params} (h : cfgWf cfg = true) (addr : Word) : ppuBacking cfg addr < 0x4000 := by
  simp only [ppuBacking]
  split
  · omega
  · next hk => have := ntBacking_lt (m := cfg.ntMap) h (k := addr.toNat % 0x4000) (by omega); omega

theorem wf_iff (s : State) : s.wf = true ↔
    s.cpuMem.wf = true ∧ s.cpuMem.all (fun c => cpuLocation c.1) = true ∧ s.ppuMem.wf = true ∧
      s.ppuMem.all (fun c => c.1 < 0x4000) = true ∧ cfgWf s.cfg = true := by
  simp [State.wf, and_assoc]

theorem wf_setCpuMem {s : State} (h : s.wf = true) {k : Nat} (hk : cpuLocation k = true) (v : Byte) :
    (s.setCpuMem (s.cpuMem.set k v)).wf = true := by
  obtain ⟨h1, h2, h3, h4, h5⟩ := (wf_iff s).mp h
  exact (wf_iff _).mpr ⟨Memory.wf_set h1 k v, Memory.set_all k v h2 hk, h3, h4, h5⟩

theorem wf_ppuWrite {s : State} (h : s.wf = true) (addr : Word) (v : Byte) : (ppuWrite addr v s).wf = true := by
  obtain ⟨h1, h2, h3, h4, h5⟩ := (wf_iff s).mp h
  exact (wf_iff _).mpr ⟨h1, h2, Memory.wf_set h3 _ v,
    Memory.set_all (p := fun k => decide (k < 0x4000)) _ v h4 (by simpa using ppuBacking_lt h5 addr), h5⟩

theorem wf_portWrite {s : State} (h : s.wf = true) (p : Port) (d : Byte) : (portWrite p d s).wf = true := by
  cases p with
  | ppudata => exact wf_ppuWrite h (vramAddr s.ppu) d
  | ppuscroll => simp only [portWrite]; split <;> exact h
  | ppuaddr => simp only [portWrite]; split <;> exact h
  | _ => exact h

theorem wf_memWrite {s : State} (h : s.wf = true) (addr : Word) (v : Byte) : (memWrite addr v s).wf = true := by
  unfold memWrite
  cases hr : regionOf addr with
  | cell k => exact wf_setCpuMem h (regionOf_cell_loc hr) v
  | port p => exact wf_portWrite h p v
  | oamDma => exact h

theorem wf_push {s : State} (h : s.wf = true) (v : Byte) : (push v s).wf = true := wf_memWrite h (stackAddr s.s) v

theorem wf_pull {s : State} (h : s.wf = true) : (pull s).2.wf = true := by rw [pull_snd]; exact h

theorem wf_takeInterrupt {s : State} (h : s.wf = true) (k : IntType) : (takeInterrupt k s).wf = true := by
  unfold takeInterrupt
  split
  · exact h
  · rw [read16_vector]
    exact wf_push (wf_push (wf_push h _) _) _

theorem wf_returnFromInterrupt {s : State} (h : s.wf = true) : (returnFromInterrupt s).wf = true := by
  simp only [returnFromInterrupt, pull_snd]
  exact h

theorem wf_aluToA {s : State} (h : s.wf = true) (op : AluOp) (o : Source) (i : Instr) : (aluToA op o i s).wf = true :=
  (readSource_portsOnly o s).wf.trans h

theorem wf_aluTest {s : State} (h : s.wf = true) (op : AluOp) (reg : Byte) (o : Source) (i : Instr) :
    (aluTest op reg o i s).wf = true := (readSource_portsOnly o s).wf.trans h

theorem wf_store {s : State} (h : s.wf = true) (v : Byte) (m : MemMode) (i : Instr) : (store v m i s).wf = true :=
  wf_memWrite ((resolve_portsOnly m s).wf.trans h) _ _

theorem wf_modifyMem {s : State} (h : s.wf = true) (op : AluOp) (m : MemMode) (i : Instr) :
    (modifyMem op m i s).wf = true :=
  wf_memWrite (s := driveFlags _ _) (((resolve_portsOnly m s).trans (memRead_portsOnly _ _)).wf.trans h) _ _

theorem wf_modify {s : State} (h : s.wf = true) (op : AluOp) (o : Place) (i : Instr) : (modify op o i s).wf = true := by
  cases o with
  | accumulator => exact h
  | memory m => exact wf_modifyMem h op m i

/-! ### Reading storage without a side effect -/

theorem peek_cell {addr : Word} {k : Nat} (h : regionOf addr = .cell k) (s : State) : peek addr s = some (s.cpuMem.get k) := by
  simp [peek, h]

theorem peek_congr {s t : State} (h : t.cpuMem = s.cpuMem) (addr : Word) : peek addr t = peek addr s := by
  simp [peek, h]

theorem portWrite_cpuMem (p : Port) (d : Byte) (s : State) : (portWrite p d s).cpuMem = s.cpuMem := by
  cases p with
  | ppuscroll => simp only [portWrite]; split <;> rfl
  | ppuaddr => simp only [portWrite]; split <;> rfl
  | _ => rfl

/-- A write leaves every byte of storage alone but the one its address leads to: 20_memory.md R54, R61. -/
theorem peek_memWrite_other {addr b : Word} (h : regionOf b ≠ regionOf addr) (v : Byte) (s : State) :
    peek b (memWrite addr v s) = peek b s := by
  unfold memWrite
  cases hr : regionOf addr with
  | cell k =>
    unfold peek
    cases hb : regionOf b with
    | cell j =>
      have : j ≠ k := fun hjk => h (by rw [hb, hr, hjk])
      simp [Memory.get_set_other _ v this]
    | port p => rfl
    | oamDma => rfl
  | port p => exact peek_congr (portWrite_cpuMem p v s) b
  | oamDma => rfl

/-- A read of storage after a write that leads to the same byte gives the value written: 20_memory.md R61. -/
theorem peek_memWrite_same {addr b : Word} {k : Nat} (ha : regionOf addr = .cell k) (hb : regionOf b = .cell k)
    (v : Byte) {s : State} (hs : s.wf = true) : peek b (memWrite addr v s) = some v := by
  rw [peek_cell hb, memWrite_cell ha]
  simp [Memory.get_set_same ((wf_iff s).mp hs).1]

end Sys2Proof.Machine
end

