-- ==== Sys2Proof/Laws/Operands.lean ====
section
/-! SUPPORT. What each shared shape of an instruction does, as one update of the state: what the update does not name is unchanged. -/

namespace Sys2Proof.Machine

/-! ### Writes -/

/-- `t` is `s` but for what a memory write may change. -/
def WritesOnly (s t : State) : Prop :=
  t = { s with ppu := t.ppu, drawn := t.drawn, cpuMem := t.cpuMem, ppuMem := t.ppuMem }

theorem portWrite_writesOnly (p : Port) (d : Byte) (s : State) : WritesOnly s (portWrite p d s) := by
  cases p <;> first | rfl | (simp only [portWrite]; split <;> rfl)

theorem memWrite_writesOnly (addr : Word) (v : Byte) (s : State) : WritesOnly s (memWrite addr v s) := by
  unfold memWrite
  cases regionOf addr with
  | cell k => rfl
  | port p => exact portWrite_writesOnly p v s
  | oamDma => rfl

/-- A write does not depend on the flags. -/
theorem memWrite_setPs (addr : Word) (v : Byte) (s : State) (p : Status) :
    memWrite addr v (s.setPs p) = (memWrite addr v s).setPs p := by
  unfold memWrite
  cases regionOf addr with
  | cell k => rfl
  | port q =>
    by_cases h : s.ppu.w = true <;> cases q <;> first | rfl | (simp [portWrite, h]; rfl)
  | oamDma => rfl

/-- A write outside the ports leaves PPU memory and the ports alone. -/
theorem memWrite_ppu {addr : Word} (h : ∀ p, regionOf addr ≠ .port p) (v : Byte) (s : State) :
    (memWrite addr v s).ppu = s.ppu ∧ (memWrite addr v s).ppuMem = s.ppuMem := by
  unfold memWrite
  cases hr : regionOf addr with
  | cell k => exact ⟨rfl, rfl⟩
  | port p => exact absurd hr (h p)
  | oamDma => exact ⟨rfl, rfl⟩

/-! ### The zero-page pointer -/

theorem zext16_toNat (b : Byte) : (zext16 b).toNat = b.toNat := by
  have := b.isLt
  simp only [zext16, BitVec.zeroExtend, BitVec.toNat_setWidth]
  omega

/-- Page zero is storage: 20_memory.md R55. -/
theorem regionOf_zeroPage (b : Byte) : regionOf (zext16 b) = .cell b.toNat := by
  have := b.isLt
  simp only [regionOf, zext16_toNat]
  rw [if_pos (by omega)]
  congr 1
  omega

/-- A zero-page pointer is read from storage, so nothing changes: 40_addressing.md R121, R122. -/
theorem zpPointer_eq (p : Byte) (s : State) :
    zpPointer p s = (word (s.cpuMem.get (p + 1).toNat) (s.cpuMem.get p.toNat), s) := by
  have h1 := memRead_cell (regionOf_zeroPage p) s
  have h2 := memRead_cell (regionOf_zeroPage (p + 1)) s
  unfold zpPointer
  rw [h1]
  dsimp only
  rw [h2]

/-- Resolving a mode changes nothing: 40_addressing.md R110. -/
@[simp] theorem resolve_st (m : MemMode) (s : State) : (resolve m s).st = s := by
  cases m <;> first | rfl | simp only [resolve, zpPointer_eq]

/-- The page-cross test compares the two high bytes: 40_addressing.md R124. -/
theorem crosses_iff (base ea : Word) : crosses base ea = true ↔ ea.toNat / 256 ≠ base.toNat / 256 := by
  simp only [crosses, bne_iff_ne, ne_eq, ← BitVec.toNat_inj, hi_toNat]

/-! ### The shapes of the instructions -/

theorem setZN_eq (r : Byte) (s : State) : setZN r s = s.setPs (s.ps.drive (outZN r)) := rfl

theorem aluToA_eq (op : AluOp) (o : Source) (i : Instr) (s : State) :
    aluToA op o i s =
      let q := readSource o s
      let r := alu op s.a q.val s.ps.c
      { s with
        a := r.r, ps := s.ps.drive r, ppu := q.st.ppu, drawn := q.st.drawn
        cycles := baseCycles i + q.cross.toNat } := by
  have h := readSource_portsOnly o s
  simp only [aluToA, finish, driveFlags]
  generalize readSource o s = q at *
  obtain ⟨v, c, t⟩ := q
  unfold PortsOnly at h
  simp only at h ⊢
  rw [h]
  rfl

theorem aluTest_eq (op : AluOp) (reg : Byte) (o : Source) (i : Instr) (s : State) :
    aluTest op reg o i s =
      let q := readSource o s
      { s with
        ps := s.ps.drive (alu op reg q.val s.ps.c), ppu := q.st.ppu, drawn := q.st.drawn
        cycles := baseCycles i + q.cross.toNat } := by
  have h := readSource_portsOnly o s
  simp only [aluTest, finish, driveFlags]
  generalize readSource o s = q at *
  obtain ⟨v, c, t⟩ := q
  unfold PortsOnly at h
  simp only at h ⊢
  rw [h]
  rfl

theorem loadA_eq (o : Source) (i : Instr) (s : State) :
    load State.setA o i s =
      let q := readSource o s
      { s with
        a := q.val, ps := s.ps.drive (outZN q.val), ppu := q.st.ppu, drawn := q.st.drawn
        cycles := baseCycles i + q.cross.toNat } := by
  have h := readSource_portsOnly o s
  simp only [load, finish, setZN_eq]
  generalize readSource o s = q at *
  obtain ⟨v, c, t⟩ := q
  unfold PortsOnly at h
  simp only at h ⊢
  rw [h]
  rfl

theorem loadX_eq (o : Source) (i : Instr) (s : State) :
    load State.setX o i s =
      let q := readSource o s
      { s with
        x := q.val, ps := s.ps.drive (outZN q.val), ppu := q.st.ppu, drawn := q.st.drawn
        cycles := baseCycles i + q.cross.toNat } := by
  have h := readSource_portsOnly o s
  simp only [load, finish, setZN_eq]
  generalize readSource o s = q at *
  obtain ⟨v, c, t⟩ := q
  unfold PortsOnly at h
  simp only at h ⊢
  rw [h]
  rfl

theorem loadY_eq (o : Source) (i : Instr) (s : State) :
    load State.setY o i s =
      let q := readSource o s
      { s with
        y := q.val, ps := s.ps.drive (outZN q.val), ppu := q.st.ppu, drawn := q.st.drawn
        cycles := baseCycles i + q.cross.toNat } := by
  have h := readSource_portsOnly o s
  simp only [load, finish, setZN_eq]
  generalize readSource o s = q at *
  obtain ⟨v, c, t⟩ := q
  unfold PortsOnly at h
  simp only at h ⊢
  rw [h]
  rfl

theorem store_eq (v : Byte) (m : MemMode) (i : Instr) (s : State) :
    store v m i s =
      let w := memWrite (resolve m s).ea v s
      { s with
        ppu := w.ppu, drawn := w.drawn, cpuMem := w.cpuMem, ppuMem := w.ppuMem
        cycles := baseCycles i + (resolve m s).cross.toNat } := by
  have h := memWrite_writesOnly (resolve m s).ea v s
  simp only [store, finish, resolve_st]
  generalize memWrite (resolve m s).ea v s = w at *
  unfold WritesOnly at h
  rw [h]
  rfl

theorem modifyMem_eq (op : AluOp) (m : MemMode) (i : Instr) (s : State) :
    modifyMem op m i s =
      let q := memRead (resolve m s).ea s
      let r := alu op s.a q.1 s.ps.c
      let w := memWrite (resolve m s).ea r.r q.2
      { s with
        ps := s.ps.drive r, ppu := w.ppu, drawn := w.drawn, cpuMem := w.cpuMem, ppuMem := w.ppuMem
        cycles := baseCycles i + (resolve m s).cross.toNat } := by
  have h := memRead_portsOnly (resolve m s).ea s
  simp only [modifyMem, finish, resolve_st, driveFlags, memWrite_setPs]
  generalize memRead (resolve m s).ea s = q at *
  obtain ⟨v, t⟩ := q
  simp only at h ⊢
  rw [h.a, h.ps]
  have hw := memWrite_writesOnly (resolve m s).ea (alu op s.a v s.ps.c).r t
  generalize memWrite (resolve m s).ea (alu op s.a v s.ps.c).r t = w at *
  unfold WritesOnly at hw
  unfold PortsOnly at h
  rw [hw, h]
  rfl

theorem modifyA_eq (op : AluOp) (i : Instr) (s : State) :
    modify op .accumulator i s =
      let r := alu op s.a s.a s.ps.c
      { s with a := r.r, ps := s.ps.drive r, cycles := baseCycles i } := rfl

theorem branch_eq (cond : Bool) (b1 : Byte) (i : Instr) (s : State) :
    branch cond b1 i s =
      { s with
        pc := if cond then branchTarget b1 s else s.pc
        cycles := baseCycles i + if cond then 1 + (crosses (s.pc - 1) (branchTarget b1 s)).toNat else 0 } := by
  cases cond <;> rfl

/-- Two pulls in a row: low byte first. -/
theorem pull_pull (s : State) :
    pull (pull s).2 = (s.cpuMem.get (0x100 + (s.s + 1 + 1).toNat), s.setS (s.s + 1 + 1)) := by
  rw [pull_eq, pull_eq]
  rfl

theorem jmp_eq (t : Target) (i : Instr) (s : State) :
    finish i false ((resolveTarget t s).2.setPc (resolveTarget t s).1) =
      { s with
        pc := (resolveTarget t s).1, ppu := (resolveTarget t s).2.ppu, drawn := (resolveTarget t s).2.drawn
        cycles := baseCycles i } := by
  have h := resolveTarget_portsOnly t s
  generalize resolveTarget t s = q at *
  obtain ⟨w, u⟩ := q
  unfold PortsOnly at h
  simp only at h ⊢
  rw [h]
  rfl

theorem rts_eq (i : Instr) (s : State) :
    finish i false ((pull (pull s).2).2.setPc (word (pull (pull s).2).1 (pull s).1 + 1)) =
      { s with
        s := s.s + 1 + 1
        pc := word (s.cpuMem.get (0x100 + (s.s + 1 + 1).toNat)) (s.cpuMem.get (0x100 + (s.s + 1).toNat)) + 1
        cycles := baseCycles i } := by
  rw [pull_pull, pull_eq]
  rfl

theorem returnFromInterrupt_eq (s : State) :
    returnFromInterrupt s =
      let at_ (sp : Byte) := s.cpuMem.get (0x100 + sp.toNat)
      { s with
        s := s.s + 1 + 1 + 1, ps := unpack (at_ (s.s + 1)) true
        pc := word (at_ (s.s + 1 + 1 + 1)) (at_ (s.s + 1 + 1)) } := by
  simp only [returnFromInterrupt, pull_eq]
  rfl

/-! ### The interrupt frame -/

/-- CPU memory with the three bytes of the frame pushed: 60_exceptions.md R324. -/
def frameMem (k : IntType) (s : State) : Memory :=
  ((s.cpuMem.set (0x100 + s.s.toNat) (hi s.pc)).set (0x100 + (s.s - 1).toNat) (lo s.pc)).set (0x100 + (s.s - 1 - 1).toNat)
    (pack s.ps (k == .brk))

theorem frameMem_get (k : IntType) (s : State) {a : Nat} (h : 0x200 ≤ a) : (frameMem k s).get a = s.cpuMem.get a := by
  have h1 := s.s.isLt
  have h2 := (s.s - 1).isLt
  have h3 := (s.s - 1 - 1).isLt
  unfold frameMem
  rw [Memory.get_set_other _ _ (by omega), Memory.get_set_other _ _ (by omega), Memory.get_set_other _ _ (by omega)]

theorem pushFrame_eq (k : IntType) (s : State) :
    pushFrame k s = { s with cpuMem := frameMem k s, s := s.s - 1 - 1 - 1, ps := { s.ps with i := true } } := by
  simp only [pushFrame, push_eq]
  rfl

theorem takeInterrupt_masked {k : IntType} {s : State} (h : masked k s = true) :
    takeInterrupt k s = { s with cycles := 0 } := by
  simp only [takeInterrupt, h, if_true]
  rfl

theorem takeInterrupt_taken {k : IntType} {s : State} (h : masked k s = false) :
    takeInterrupt k s =
      { s with
        cpuMem := frameMem k s, s := s.s - 1 - 1 - 1, ps := { s.ps with i := true }
        pc := word (s.cpuMem.get ((vector k).toNat + 1)) (s.cpuMem.get (vector k).toNat), cycles := 7 } := by
  have hv : 0x200 ≤ (vector k).toNat := by cases k <;> decide
  simp only [takeInterrupt, h, read16_vector, pushFrame_eq]
  rw [frameMem_get k s hv, frameMem_get k s (by omega)]
  rfl

end Sys2Proof.Machine
end

