-- ==== Sys2Proof/Laws/Bits.lean ====
section
/-! SUPPORT. The bit arithmetic of the model as arithmetic on numbers: bytes, addresses, and the fields of `v` and `t`. -/

namespace Sys2Proof.Machine

/-! ### Bytes -/

theorem byte_succ (b : Byte) : b + 1 = BitVec.ofNat 8 (b.toNat + 1) := by revert b; decide

theorem byte_pred (b : Byte) : b - 1 = BitVec.ofNat 8 (b.toNat + 255) := by revert b; decide

theorem byte_shiftLeft (b : Byte) : b <<< 1 = BitVec.ofNat 8 (b.toNat * 2) := by revert b; decide

theorem byte_shiftRight (b : Byte) : b >>> 1 = BitVec.ofNat 8 (b.toNat / 2) := by revert b; decide

theorem byte_rotateLeft (b : Byte) (c : Bool) :
    b.extractLsb' 0 7 ++ BitVec.ofBool c = BitVec.ofNat 8 (b.toNat * 2 + c.toNat) := by revert b; cases c <;> decide

theorem byte_rotateRight (b : Byte) (c : Bool) :
    BitVec.ofBool c ++ b.extractLsb' 1 7 = BitVec.ofNat 8 (b.toNat / 2 + c.toNat * 128) := by revert b; cases c <;> decide

theorem byte_msb (b : Byte) : b.getLsbD 7 = decide (128 ≤ b.toNat) := by revert b; decide

theorem byte_and_msb (b : Byte) : decide (b &&& 0x80 ≠ 0) = b.getLsbD 7 := by revert b; decide

theorem byte_and_low7 (b : Byte) : b &&& 0x7F = BitVec.ofNat 8 (b.toNat % 128) := by revert b; decide

theorem byte_complement (b : Byte) : (b ^^^ 0xFF).toNat = 255 - b.toNat := by revert b; decide

/-! ### Addresses -/

theorem zext16_eq (b : Byte) : zext16 b = BitVec.ofNat 16 b.toNat := by
  apply BitVec.eq_of_toNat_eq
  have := b.isLt
  simp [zext16]

theorem word_eq (h l : Byte) : word h l = BitVec.ofNat 16 (h.toNat * 256 + l.toNat) := by
  apply BitVec.eq_of_toNat_eq
  have := h.isLt
  have := l.isLt
  rw [word_toNat]
  simp
  omega

/-- A base address and an index register (40_addressing.md R118, R119). -/
theorem indexed_toNat (base : Word) (x : Byte) : (base + zext16 x).toNat = (base.toNat + x.toNat) % 65536 := by
  rw [BitVec.toNat_add, zext16_toNat]

theorem crosses_eq (base ea : Word) : crosses base ea = decide (ea.toNat / 256 ≠ base.toNat / 256) := by
  rw [Bool.eq_iff_iff, crosses_iff, decide_eq_true_iff]

/-- A displacement added modulo 65536, as the sum of the signed value (40_addressing.md R123). -/
theorem displaced_eq (pc : Word) (b : Byte) :
    pc + sext16 b = BitVec.ofInt 16 (pc.toNat + if b.toNat < 128 then (b.toNat : Int) else (b.toNat : Int) - 256) := by
  apply BitVec.eq_of_toInt_eq
  have hb := b.isLt
  simp only [sext16, BitVec.toInt_add, BitVec.toInt_signExtend_of_le (show 8 ≤ 16 by omega), BitVec.toInt_ofInt]
  rw [BitVec.toInt_eq_toNat_bmod pc, BitVec.toInt_eq_toNat_cond b]
  split <;> split <;> simp_all <;> omega

/-- The address of the pointer's high byte, in the same page (40_addressing.md R120). -/
theorem pointerHigh_word (ptr : Word) : ((ptr &&& 0xFF00) ||| ((ptr + 1) &&& 0x00FF)) = word (hi ptr) (lo ptr + 1) := by
  have e1 : ptr &&& 0xFF00 = hi ptr ++ (0 : Byte) := by
    have h : ptr = hi ptr ++ lo ptr := (word_hi_lo ptr).symm
    conv_lhs => rw [h]
    rw [show (0xFF00 : Word) = (0xFF : Byte) ++ (0x00 : Byte) from rfl, BitVec.and_append]
    congr 1
    · exact BitVec.and_allOnes
    · exact BitVec.and_zero
  have e2 : (ptr + 1) &&& 0x00FF = (0 : Byte) ++ (lo ptr + 1) := by
    rw [← word_hi_lo (ptr + 1), word, show (0x00FF : Word) = (0x00 : Byte) ++ (0xFF : Byte) from rfl, BitVec.and_append]
    congr 1
    · exact BitVec.and_zero
    · refine (BitVec.and_allOnes).trans ?_
      apply BitVec.eq_of_toNat_eq
      rw [lo_toNat, BitVec.toNat_add, BitVec.toNat_add, lo_toNat]
      simp
  rw [e1, e2, BitVec.or_append]
  simp [word]

/-- The same address as a number. -/
theorem pointerHigh_eq (b1 b2 : Byte) : ((word b2 b1 &&& 0xFF00) ||| ((word b2 b1 + 1) &&& 0x00FF)) =
    BitVec.ofNat 16 (b2.toNat * 256 + (b1.toNat + 1) % 256) := by
  rw [pointerHigh_word, hi_word, lo_word, word_eq]
  congr 1

/-- The port addresses 0x2000 to 0x3FFF (20_memory.md R56). -/
theorem regionOf_port (off : BitVec 13) : regionOf (0x2000 + off.zeroExtend 16) = .port (portOf off.toNat) := by
  have := off.isLt
  have h : (0x2000 + off.zeroExtend 16 : Word).toNat = 0x2000 + off.toNat := by
    rw [BitVec.toNat_add]
    simp
    omega
  simp only [regionOf, h]
  rw [if_neg (by omega), if_pos (by omega)]
  congr 1
  simp only [portOf]
  rw [show (0x2000 + off.toNat) % 8 = off.toNat % 8 by omega]

/-! ### Fields -/

theorem extract_toNat {w : Nat} (x : BitVec w) (a n : Nat) : (x.extractLsb' a n).toNat = x.toNat / 2 ^ a % 2 ^ n := by
  rw [BitVec.extractLsb'_toNat, Nat.shiftRight_eq_div_pow]

theorem append_toNat {w v : Nat} (x : BitVec w) (y : BitVec v) : (x ++ y).toNat = x.toNat * 2 ^ v + y.toNat := by
  rw [BitVec.toNat_append, ← Nat.shiftLeft_add_eq_or_of_lt y.isLt, Nat.shiftLeft_eq]

/-- The fields of `v` and `t` as one number (10_state.md R33). -/
theorem vram_toNat (fy : BitVec 3) (nt : BitVec 2) (cy cx : BitVec 5) :
    (vram fy nt cy cx).toNat = fy.toNat * 4096 + nt.toNat * 1024 + cy.toNat * 32 + cx.toNat := by
  have h1 := nt.isLt
  have h2 := cy.isLt
  have h3 := cx.isLt
  simp only [vram, append_toNat]
  omega

end Sys2Proof.Machine
end

