-- ==== Sys2Proof/Laws/PerInstr.lean ====
section
/-! SUPPORT. For every instruction: it is well-formed exactly when it has an opcode byte (30_encoding.md R91) or is an operation that is
called (49_ppu_vt.md R290; 60_exceptions.md R321). -/

namespace Sys2Proof.Laws.EncodingExists

/-- The well-formedness check and the encoding tables agree on the instruction. -/
def Statement (i : Instr) : Prop := i.wf = (i.opcode.isSome || (encodeCall i).isSome)

theorem ora (o : Source) : Statement (.ora o) := by
  rcases o with _ | m
  · rfl
  · cases m <;> rfl

theorem and (o : Source) : Statement (.and o) := by
  rcases o with _ | m
  · rfl
  · cases m <;> rfl

theorem eor (o : Source) : Statement (.eor o) := by
  rcases o with _ | m
  · rfl
  · cases m <;> rfl

theorem bit (m : MemMode) : Statement (.bit m) := by cases m <;> rfl

theorem asl (o : Place) : Statement (.asl o) := by
  rcases o with _ | m
  · rfl
  · cases m <;> rfl

theorem lsr (o : Place) : Statement (.lsr o) := by
  rcases o with _ | m
  · rfl
  · cases m <;> rfl

theorem rol (o : Place) : Statement (.rol o) := by
  rcases o with _ | m
  · rfl
  · cases m <;> rfl

theorem ror (o : Place) : Statement (.ror o) := by
  rcases o with _ | m
  · rfl
  · cases m <;> rfl

theorem adc (o : Source) : Statement (.adc o) := by
  rcases o with _ | m
  · rfl
  · cases m <;> rfl

theorem sbc (o : Source) : Statement (.sbc o) := by
  rcases o with _ | m
  · rfl
  · cases m <;> rfl

theorem cmp (o : Source) : Statement (.cmp o) := by
  rcases o with _ | m
  · rfl
  · cases m <;> rfl

theorem cpx (o : Source) : Statement (.cpx o) := by
  rcases o with _ | m
  · rfl
  · cases m <;> rfl

theorem cpy (o : Source) : Statement (.cpy o) := by
  rcases o with _ | m
  · rfl
  · cases m <;> rfl

theorem lda (o : Source) : Statement (.lda o) := by
  rcases o with _ | m
  · rfl
  · cases m <;> rfl

theorem ldx (o : Source) : Statement (.ldx o) := by
  rcases o with _ | m
  · rfl
  · cases m <;> rfl

theorem ldy (o : Source) : Statement (.ldy o) := by
  rcases o with _ | m
  · rfl
  · cases m <;> rfl

theorem sta (m : MemMode) : Statement (.sta m) := by cases m <;> rfl

theorem stx (m : MemMode) : Statement (.stx m) := by cases m <;> rfl

theorem sty (m : MemMode) : Statement (.sty m) := by cases m <;> rfl

theorem tax : Statement .tax := rfl

theorem tay : Statement .tay := rfl

theorem txa : Statement .txa := rfl

theorem tya : Statement .tya := rfl

theorem tsx : Statement .tsx := rfl

theorem txs : Statement .txs := rfl

theorem inc (m : MemMode) : Statement (.inc m) := by cases m <;> rfl

theorem dec (m : MemMode) : Statement (.dec m) := by cases m <;> rfl

theorem inx : Statement .inx := rfl

theorem iny : Statement .iny := rfl

theorem dex : Statement .dex := rfl

theorem dey : Statement .dey := rfl

theorem bcc (b1 : Byte) : Statement (.bcc b1) := rfl

theorem bcs (b1 : Byte) : Statement (.bcs b1) := rfl

theorem beq (b1 : Byte) : Statement (.beq b1) := rfl

theorem bmi (b1 : Byte) : Statement (.bmi b1) := rfl

theorem bne (b1 : Byte) : Statement (.bne b1) := rfl

theorem bpl (b1 : Byte) : Statement (.bpl b1) := rfl

theorem bvc (b1 : Byte) : Statement (.bvc b1) := rfl

theorem bvs (b1 : Byte) : Statement (.bvs b1) := rfl

theorem pha : Statement .pha := rfl

theorem php : Statement .php := rfl

theorem pla : Statement .pla := rfl

theorem plp : Statement .plp := rfl

theorem clc : Statement .clc := rfl

theorem sec : Statement .sec := rfl

theorem cli : Statement .cli := rfl

theorem sei : Statement .sei := rfl

theorem clv : Statement .clv := rfl

theorem cld : Statement .cld := rfl

theorem sed : Statement .sed := rfl

theorem nop : Statement .nop := rfl

theorem jmp (t : Target) : Statement (.jmp t) := by cases t <;> rfl

theorem jsr (addr : Word) : Statement (.jsr addr) := rfl

theorem rts : Statement .rts := rfl

theorem rti : Statement .rti := rfl

theorem brk : Statement .brk := rfl

theorem ppuctrlWrite (d : Byte) : Statement (.ppuctrlWrite d) := rfl

theorem ppustatusRead : Statement .ppustatusRead := rfl

theorem ppuscrollWriteFirst (d : Byte) : Statement (.ppuscrollWriteFirst d) := rfl

theorem ppuscrollWriteSecond (d : Byte) : Statement (.ppuscrollWriteSecond d) := rfl

theorem ppuaddrWriteFirst (d : Byte) : Statement (.ppuaddrWriteFirst d) := rfl

theorem ppuaddrWriteSecond (d : Byte) : Statement (.ppuaddrWriteSecond d) := rfl

theorem ppudataRead : Statement .ppudataRead := rfl

theorem ppudataWrite (d : Byte) : Statement (.ppudataWrite d) := rfl

theorem fineYIncrement : Statement .fineYIncrement := rfl

theorem interruptBrk : Statement .interruptBrk := rfl

theorem interruptIrq : Statement .interruptIrq := rfl

theorem interruptReset : Statement .interruptReset := rfl

theorem interruptNmi : Statement .interruptNmi := rfl

theorem undefined02 : Statement .undefined02 := rfl

theorem undefined03 : Statement .undefined03 := rfl

theorem undefined04 : Statement .undefined04 := rfl

theorem undefined07 : Statement .undefined07 := rfl

theorem undefined0B : Statement .undefined0B := rfl

theorem undefined0C : Statement .undefined0C := rfl

theorem undefined0F : Statement .undefined0F := rfl

theorem undefined12 : Statement .undefined12 := rfl

theorem undefined13 : Statement .undefined13 := rfl

theorem undefined14 : Statement .undefined14 := rfl

theorem undefined17 : Statement .undefined17 := rfl

theorem undefined1A : Statement .undefined1A := rfl

theorem undefined1B : Statement .undefined1B := rfl

theorem undefined1C : Statement .undefined1C := rfl

theorem undefined1F : Statement .undefined1F := rfl

theorem undefined22 : Statement .undefined22 := rfl

theorem undefined23 : Statement .undefined23 := rfl

theorem undefined27 : Statement .undefined27 := rfl

theorem undefined2B : Statement .undefined2B := rfl

theorem undefined2F : Statement .undefined2F := rfl

theorem undefined32 : Statement .undefined32 := rfl

theorem undefined33 : Statement .undefined33 := rfl

theorem undefined34 : Statement .undefined34 := rfl

theorem undefined37 : Statement .undefined37 := rfl

theorem undefined3A : Statement .undefined3A := rfl

theorem undefined3B : Statement .undefined3B := rfl

theorem undefined3C : Statement .undefined3C := rfl

theorem undefined3F : Statement .undefined3F := rfl

theorem undefined42 : Statement .undefined42 := rfl

theorem undefined43 : Statement .undefined43 := rfl

theorem undefined44 : Statement .undefined44 := rfl

theorem undefined47 : Statement .undefined47 := rfl

theorem undefined4B : Statement .undefined4B := rfl

theorem undefined4F : Statement .undefined4F := rfl

theorem undefined52 : Statement .undefined52 := rfl

theorem undefined53 : Statement .undefined53 := rfl

theorem undefined54 : Statement .undefined54 := rfl

theorem undefined57 : Statement .undefined57 := rfl

theorem undefined5A : Statement .undefined5A := rfl

theorem undefined5B : Statement .undefined5B := rfl

theorem undefined5C : Statement .undefined5C := rfl

theorem undefined5F : Statement .undefined5F := rfl

theorem undefined62 : Statement .undefined62 := rfl

theorem undefined63 : Statement .undefined63 := rfl

theorem undefined64 : Statement .undefined64 := rfl

theorem undefined67 : Statement .undefined67 := rfl

theorem undefined6B : Statement .undefined6B := rfl

theorem undefined6F : Statement .undefined6F := rfl

theorem undefined72 : Statement .undefined72 := rfl

theorem undefined73 : Statement .undefined73 := rfl

theorem undefined74 : Statement .undefined74 := rfl

theorem undefined77 : Statement .undefined77 := rfl

theorem undefined7A : Statement .undefined7A := rfl

theorem undefined7B : Statement .undefined7B := rfl

theorem undefined7C : Statement .undefined7C := rfl

theorem undefined7F : Statement .undefined7F := rfl

theorem undefined80 : Statement .undefined80 := rfl

theorem undefined82 : Statement .undefined82 := rfl

theorem undefined83 : Statement .undefined83 := rfl

theorem undefined87 : Statement .undefined87 := rfl

theorem undefined89 : Statement .undefined89 := rfl

theorem undefined8B : Statement .undefined8B := rfl

theorem undefined8F : Statement .undefined8F := rfl

theorem undefined92 : Statement .undefined92 := rfl

theorem undefined93 : Statement .undefined93 := rfl

theorem undefined97 : Statement .undefined97 := rfl

theorem undefined9B : Statement .undefined9B := rfl

theorem undefined9C : Statement .undefined9C := rfl

theorem undefined9E : Statement .undefined9E := rfl

theorem undefined9F : Statement .undefined9F := rfl

theorem undefinedA3 : Statement .undefinedA3 := rfl

theorem undefinedA7 : Statement .undefinedA7 := rfl

theorem undefinedAB : Statement .undefinedAB := rfl

theorem undefinedAF : Statement .undefinedAF := rfl

theorem undefinedB2 : Statement .undefinedB2 := rfl

theorem undefinedB3 : Statement .undefinedB3 := rfl

theorem undefinedB7 : Statement .undefinedB7 := rfl

theorem undefinedBB : Statement .undefinedBB := rfl

theorem undefinedBF : Statement .undefinedBF := rfl

theorem undefinedC2 : Statement .undefinedC2 := rfl

theorem undefinedC3 : Statement .undefinedC3 := rfl

theorem undefinedC7 : Statement .undefinedC7 := rfl

theorem undefinedCB : Statement .undefinedCB := rfl

theorem undefinedCF : Statement .undefinedCF := rfl

theorem undefinedD2 : Statement .undefinedD2 := rfl

theorem undefinedD3 : Statement .undefinedD3 := rfl

theorem undefinedD4 : Statement .undefinedD4 := rfl

theorem undefinedD7 : Statement .undefinedD7 := rfl

theorem undefinedDA : Statement .undefinedDA := rfl

theorem undefinedDB : Statement .undefinedDB := rfl

theorem undefinedDC : Statement .undefinedDC := rfl

theorem undefinedDF : Statement .undefinedDF := rfl

theorem undefinedE2 : Statement .undefinedE2 := rfl

theorem undefinedE3 : Statement .undefinedE3 := rfl

theorem undefinedE7 : Statement .undefinedE7 := rfl

theorem undefinedEB : Statement .undefinedEB := rfl

theorem undefinedEF : Statement .undefinedEF := rfl

theorem undefinedF2 : Statement .undefinedF2 := rfl

theorem undefinedF3 : Statement .undefinedF3 := rfl

theorem undefinedF4 : Statement .undefinedF4 := rfl

theorem undefinedF7 : Statement .undefinedF7 := rfl

theorem undefinedFA : Statement .undefinedFA := rfl

theorem undefinedFB : Statement .undefinedFB := rfl

theorem undefinedFC : Statement .undefinedFC := rfl

theorem undefinedFF : Statement .undefinedFF := rfl

end Sys2Proof.Laws.EncodingExists
end

