-- ==== Sys2Proof/Laws/Ports.lean ====
section
/-! SUPPORT. Which register of the port engine an access of the CPU can change (49_ppu_vt.md R297, R304). -/

namespace Sys2Proof.Machine

/-- A read changes neither `t` nor `fx`. -/
@[simp] theorem memRead_t (addr : Word) (s : State) : (memRead addr s).2.ppu.t = s.ppu.t := by
  unfold memRead
  cases regionOf addr with
  | cell _ => rfl
  | oamDma => rfl
  | port p => cases p <;> rfl

@[simp] theorem memRead_fx (addr : Word) (s : State) : (memRead addr s).2.ppu.fx = s.ppu.fx := by
  unfold memRead
  cases regionOf addr with
  | cell _ => rfl
  | oamDma => rfl
  | port p => cases p <;> rfl

/-- Only a read of `$2002` changes `w`. -/
theorem memRead_w {addr : Word} (h : regionOf addr ≠ .port .ppustatus) (s : State) : (memRead addr s).2.ppu.w = s.ppu.w := by
  unfold memRead
  cases hr : regionOf addr with
  | cell _ => rfl
  | oamDma => rfl
  | port p =>
    cases p
    all_goals first
      | rfl
      | exact absurd hr h

/-- Only a read of `$2007` changes `v`. -/
theorem memRead_v {addr : Word} (h : regionOf addr ≠ .port .ppudata) (s : State) : (memRead addr s).2.ppu.v = s.ppu.v := by
  unfold memRead
  cases hr : regionOf addr with
  | cell _ => rfl
  | oamDma => rfl
  | port p =>
    cases p
    all_goals first
      | rfl
      | exact absurd hr h

/-- Only a write of `$2005` or `$2006` changes `w`. -/
theorem memWrite_w {addr : Word} (h5 : regionOf addr ≠ .port .ppuscroll) (h6 : regionOf addr ≠ .port .ppuaddr) (d : Byte)
    (s : State) : (memWrite addr d s).ppu.w = s.ppu.w := by
  unfold memWrite
  cases hr : regionOf addr with
  | cell _ => rfl
  | oamDma => rfl
  | port p =>
    cases p
    all_goals first
      | rfl
      | exact absurd hr h5
      | exact absurd hr h6

/-- Only a write of `$2005` or `$2006` changes `t`, or one of `$2000` under its parameter. -/
theorem memWrite_t {addr : Word} (h5 : regionOf addr ≠ .port .ppuscroll) (h6 : regionOf addr ≠ .port .ppuaddr) {s : State}
    (h0 : regionOf addr = .port .ppuctrl → s.cfg.ppuctrlWritesTNt = false) (d : Byte) :
    (memWrite addr d s).ppu.t = s.ppu.t := by
  unfold memWrite
  cases hr : regionOf addr with
  | cell _ => rfl
  | oamDma => rfl
  | port p =>
    cases p
    all_goals first
      | rfl
      | exact absurd hr h5
      | exact absurd hr h6
      | simp [portWrite, writeCtrl, h0 hr]

/-- Only the first write of `$2005` changes `fx`. -/
theorem memWrite_fx {addr : Word} {s : State} (h : ¬(regionOf addr = .port .ppuscroll ∧ s.ppu.w = false)) (d : Byte) :
    (memWrite addr d s).ppu.fx = s.ppu.fx := by
  unfold memWrite
  cases hr : regionOf addr with
  | cell _ => rfl
  | oamDma => rfl
  | port p =>
    cases p
    case ppuscroll =>
      have hw : s.ppu.w = true := by simpa [hr] using h
      simp [portWrite, hw, writeScrollSecond]
    case ppuaddr => cases hw : s.ppu.w <;> simp [portWrite, hw, writeAddrFirst, writeAddrSecond]
    all_goals rfl

/-- `v` changes by the second write of `$2006`, as a copy of `t`, or by a write of `$2007`. -/
theorem memWrite_v {addr : Word} (h7 : regionOf addr ≠ .port .ppudata) {s : State} {d : Byte}
    (hv : (memWrite addr d s).ppu.v ≠ s.ppu.v) :
    regionOf addr = .port .ppuaddr ∧ s.ppu.w = true ∧ (memWrite addr d s).ppu.v = (memWrite addr d s).ppu.t := by
  unfold memWrite at hv ⊢
  cases hr : regionOf addr with
  | cell _ => rw [hr] at hv; exact absurd rfl hv
  | oamDma => rw [hr] at hv; exact absurd rfl hv
  | port p =>
    rw [hr] at hv
    cases p
    all_goals first
      | exact absurd rfl hv
      | exact absurd hr h7
      | (cases hw : s.ppu.w <;> simp [portWrite, hw, writeScrollFirst, writeScrollSecond, writeAddrFirst, writeAddrSecond] at hv ⊢)

end Sys2Proof.Machine
end

