-- ==== Sys2Proof/Laws/Step.lean ====
section
/-! SUPPORT. Fetching, and the outputs that no operation reads. -/

namespace Sys2Proof.Machine

/-- Fetching changes `pc`, and what reads change. -/
theorem fetch_portsOnly (s : State) : PortsOnly (s.setPc (fetch s).2.pc) (fetch s).2 := by
  have h1 := memRead_portsOnly s.pc s
  have h2 := h1.trans (memRead_portsOnly (s.pc + 1) (memRead s.pc s).2)
  have h3 := h2.trans (memRead_portsOnly (s.pc + 2) (memRead (s.pc + 1) (memRead s.pc s).2).2)
  unfold fetch
  dsimp only
  cases (entryOf (memRead s.pc s).1).fmt <;> dsimp only <;> unfold PortsOnly at *
  · rw [h1]; rfl
  · rw [h2]; rfl
  · rw [h3]; rfl

/-- PPU memory is written only through `$2007` (20_memory.md R51). -/
theorem memWrite_ppuMem {addr : Word} (h : regionOf addr ≠ .port .ppudata) (v : Byte) (s : State) :
    (memWrite addr v s).ppuMem = s.ppuMem := by
  unfold memWrite
  cases hr : regionOf addr with
  | cell k => rfl
  | oamDma => rfl
  | port p =>
    cases p
    all_goals first
      | rfl
      | exact absurd hr h
      | (simp only [portWrite]; split <;> rfl)

/-- Replace the outputs: the cycle count and the byte handed to a caller (70_reset_and_hazards.md R370). -/
def State.withOutputs (s : State) (n : Nat) (b : Byte) : State := { s with cycles := n, portData := b }

section outputs

variable (s : State) (n : Nat) (b : Byte)

theorem portRead_withOutputs (p : Port) : portRead p (s.withOutputs n b) =
    ((portRead p s).1, (portRead p s).2.withOutputs n b) := by cases p <;> rfl

theorem memRead_withOutputs (addr : Word) : memRead addr (s.withOutputs n b) =
    ((memRead addr s).1, (memRead addr s).2.withOutputs n b) := by
  unfold memRead
  cases regionOf addr with
  | cell k => rfl
  | oamDma => rfl
  | port p => exact portRead_withOutputs s n b p

theorem portWrite_withOutputs (p : Port) (d : Byte) : portWrite p d (s.withOutputs n b) =
    (portWrite p d s).withOutputs n b := by
  cases p
  all_goals first
    | rfl
    | (by_cases h : s.ppu.w = true <;> simp [portWrite, State.withOutputs, h] <;> rfl)

theorem memWrite_withOutputs (addr : Word) (v : Byte) : memWrite addr v (s.withOutputs n b) =
    (memWrite addr v s).withOutputs n b := by
  unfold memWrite
  cases regionOf addr with
  | cell k => rfl
  | oamDma => rfl
  | port p => exact portWrite_withOutputs s n b p v

theorem resolve_withOutputs (m : MemMode) : (resolve m (s.withOutputs n b)).ea = (resolve m s).ea ∧
    (resolve m (s.withOutputs n b)).cross = (resolve m s).cross := by
  cases m <;> simp only [resolve, zpPointer_eq, State.withOutputs, and_self]

theorem fetch_withOutputs : fetch (s.withOutputs n b) = ((fetch s).1, (fetch s).2.withOutputs n b) := by
  unfold fetch
  simp only [show (s.withOutputs n b).pc = s.pc from rfl, memRead_withOutputs]
  cases (entryOf (memRead s.pc s).1).fmt <;> rfl

end outputs

end Sys2Proof.Machine
end

