-- ==== Sys2Proof/Tests/Slice0.lean ====
section
/-! SUPPORT. Tests of the model: what the well-formedness check refuses, words decoded from the spec's opcode map, single steps against
the vectors of 95_test_vectors.md (its row is named in each test), and the witnesses: for every claim that has hypotheses, a concrete
state and operands that meet them. -/

namespace Sys2Proof.Tests

open Sys2Proof.Machine Sys2Proof.Claims

/-- The start state of 95_test_vectors.md: every register and flag 0, but `s` 0xFD. -/
def base : State := State.powerOn { a := 0, x := 0, y := 0, s := 0xFD, pc := 0x0200, ps := 0 } [] [] Config.params

/-- The state with bytes of CPU memory, by backing location. -/
def cells : List (Nat × Byte) → State → State
  | [], s => s
  | c :: cs, s => cells cs (s.setCpuMem (s.cpuMem.set c.1 c.2))

/-- The state with an instruction's bytes at this address, and `pc` there. -/
def prog (addr : Word) (bytes : List Byte) (s : State) : State := loadBytes addr bytes (s.setPc addr)

/-- The start state with these flags. -/
def flagged (p : Byte) (s : State) : State := s.setPs (Status.ofByte p)

/-- The start state with these port registers (`v`, `t`, `fx`, `w`, `ppuctrl`, `ppustatus`), and a call pending. -/
def called (p : Ppu) (t : Turn) : State := { base with ppu := p, turns := [t] }

/-- The state after one step; none if it stopped. -/
def after (s : State) : Option State :=
  match step s with
  | .next t => some t
  | .fault _ => none
  | .refused _ => none

/-! ### The well-formedness check refuses (30_encoding.md R91) -/

theorem test_ill_formed_ora : (Instr.ora (.memory (.zeroPageY 0x10))).wf = false := by decide
theorem test_ill_formed_and : (Instr.and (.memory (.zeroPageY 0x10))).wf = false := by decide
theorem test_ill_formed_eor : (Instr.eor (.memory (.zeroPageY 0x10))).wf = false := by decide
theorem test_ill_formed_bit : (Instr.bit (.zeroPageX 0x10)).wf = false := by decide
theorem test_ill_formed_asl : (Instr.asl (.memory (.absoluteY 0x1234))).wf = false := by decide
theorem test_ill_formed_lsr : (Instr.lsr (.memory (.zpIndirectY 0x10))).wf = false := by decide
theorem test_ill_formed_rol : (Instr.rol (.memory (.zeroPageY 0x10))).wf = false := by decide
theorem test_ill_formed_ror : (Instr.ror (.memory (.zpXIndirect 0x10))).wf = false := by decide
theorem test_ill_formed_adc : (Instr.adc (.memory (.zeroPageY 0x10))).wf = false := by decide
theorem test_ill_formed_sbc : (Instr.sbc (.memory (.zeroPageY 0x10))).wf = false := by decide
theorem test_ill_formed_cmp : (Instr.cmp (.memory (.zeroPageY 0x10))).wf = false := by decide
theorem test_ill_formed_cpx : (Instr.cpx (.memory (.zeroPageX 0x10))).wf = false := by decide
theorem test_ill_formed_cpy : (Instr.cpy (.memory (.absoluteY 0x1234))).wf = false := by decide
theorem test_ill_formed_lda : (Instr.lda (.memory (.zeroPageY 0x10))).wf = false := by decide
theorem test_ill_formed_ldx : (Instr.ldx (.memory (.zeroPageX 0x10))).wf = false := by decide
theorem test_ill_formed_ldy : (Instr.ldy (.memory (.zeroPageY 0x10))).wf = false := by decide
theorem test_ill_formed_sta : (Instr.sta (.zeroPageY 0x10)).wf = false := by decide
theorem test_ill_formed_stx : (Instr.stx (.absoluteY 0x1234)).wf = false := by decide
theorem test_ill_formed_sty : (Instr.sty (.absoluteX 0x1234)).wf = false := by decide
theorem test_ill_formed_inc : (Instr.inc (.absoluteY 0x1234)).wf = false := by decide
theorem test_ill_formed_dec : (Instr.dec (.zpIndirectY 0x10)).wf = false := by decide
theorem test_ill_formed_has_no_word : encode (.stx (.absoluteY 0x1234)) = [] := by decide

/-! ### Words written out from the opcode map (30_encoding.md R90, R91), one for every row of spec/opcode_table.json -/

theorem test_decode_control :
    decode [0x00] = .ok (.brk, []) ∧
    decode [0x20, 0x34, 0x12] = .ok (.jsr 0x1234, []) ∧
    decode [0x40] = .ok (.rti, []) ∧
    decode [0x4C, 0x34, 0x12] = .ok (.jmp (.absolute 0x1234), []) ∧
    decode [0x60] = .ok (.rts, []) ∧
    decode [0x6C, 0x34, 0x12] = .ok (.jmp (.indirect 0x1234), []) := by
  repeat' constructor

theorem test_decode_logic_1 :
    decode [0x01, 0x34] = .ok (.ora (.memory (.zpXIndirect 0x34)), []) ∧
    decode [0x05, 0x34] = .ok (.ora (.memory (.zeroPage 0x34)), []) ∧
    decode [0x09, 0x34] = .ok (.ora (.immediate 0x34), []) ∧
    decode [0x0D, 0x34, 0x12] = .ok (.ora (.memory (.absolute 0x1234)), []) ∧
    decode [0x11, 0x34] = .ok (.ora (.memory (.zpIndirectY 0x34)), []) ∧
    decode [0x15, 0x34] = .ok (.ora (.memory (.zeroPageX 0x34)), []) ∧
    decode [0x19, 0x34, 0x12] = .ok (.ora (.memory (.absoluteY 0x1234)), []) ∧
    decode [0x1D, 0x34, 0x12] = .ok (.ora (.memory (.absoluteX 0x1234)), []) ∧
    decode [0x21, 0x34] = .ok (.and (.memory (.zpXIndirect 0x34)), []) ∧
    decode [0x24, 0x34] = .ok (.bit (.zeroPage 0x34), []) ∧
    decode [0x25, 0x34] = .ok (.and (.memory (.zeroPage 0x34)), []) ∧
    decode [0x29, 0x34] = .ok (.and (.immediate 0x34), []) ∧
    decode [0x2C, 0x34, 0x12] = .ok (.bit (.absolute 0x1234), []) ∧
    decode [0x2D, 0x34, 0x12] = .ok (.and (.memory (.absolute 0x1234)), []) ∧
    decode [0x31, 0x34] = .ok (.and (.memory (.zpIndirectY 0x34)), []) ∧
    decode [0x35, 0x34] = .ok (.and (.memory (.zeroPageX 0x34)), []) ∧
    decode [0x39, 0x34, 0x12] = .ok (.and (.memory (.absoluteY 0x1234)), []) ∧
    decode [0x3D, 0x34, 0x12] = .ok (.and (.memory (.absoluteX 0x1234)), []) ∧
    decode [0x41, 0x34] = .ok (.eor (.memory (.zpXIndirect 0x34)), []) ∧
    decode [0x45, 0x34] = .ok (.eor (.memory (.zeroPage 0x34)), []) := by
  repeat' constructor

theorem test_decode_logic_2 :
    decode [0x49, 0x34] = .ok (.eor (.immediate 0x34), []) ∧
    decode [0x4D, 0x34, 0x12] = .ok (.eor (.memory (.absolute 0x1234)), []) ∧
    decode [0x51, 0x34] = .ok (.eor (.memory (.zpIndirectY 0x34)), []) ∧
    decode [0x55, 0x34] = .ok (.eor (.memory (.zeroPageX 0x34)), []) ∧
    decode [0x59, 0x34, 0x12] = .ok (.eor (.memory (.absoluteY 0x1234)), []) ∧
    decode [0x5D, 0x34, 0x12] = .ok (.eor (.memory (.absoluteX 0x1234)), []) := by
  repeat' constructor

theorem test_decode_shift :
    decode [0x06, 0x34] = .ok (.asl (.memory (.zeroPage 0x34)), []) ∧
    decode [0x0A] = .ok (.asl .accumulator, []) ∧
    decode [0x0E, 0x34, 0x12] = .ok (.asl (.memory (.absolute 0x1234)), []) ∧
    decode [0x16, 0x34] = .ok (.asl (.memory (.zeroPageX 0x34)), []) ∧
    decode [0x1E, 0x34, 0x12] = .ok (.asl (.memory (.absoluteX 0x1234)), []) ∧
    decode [0x26, 0x34] = .ok (.rol (.memory (.zeroPage 0x34)), []) ∧
    decode [0x2A] = .ok (.rol .accumulator, []) ∧
    decode [0x2E, 0x34, 0x12] = .ok (.rol (.memory (.absolute 0x1234)), []) ∧
    decode [0x36, 0x34] = .ok (.rol (.memory (.zeroPageX 0x34)), []) ∧
    decode [0x3E, 0x34, 0x12] = .ok (.rol (.memory (.absoluteX 0x1234)), []) ∧
    decode [0x46, 0x34] = .ok (.lsr (.memory (.zeroPage 0x34)), []) ∧
    decode [0x4A] = .ok (.lsr .accumulator, []) ∧
    decode [0x4E, 0x34, 0x12] = .ok (.lsr (.memory (.absolute 0x1234)), []) ∧
    decode [0x56, 0x34] = .ok (.lsr (.memory (.zeroPageX 0x34)), []) ∧
    decode [0x5E, 0x34, 0x12] = .ok (.lsr (.memory (.absoluteX 0x1234)), []) ∧
    decode [0x66, 0x34] = .ok (.ror (.memory (.zeroPage 0x34)), []) ∧
    decode [0x6A] = .ok (.ror .accumulator, []) ∧
    decode [0x6E, 0x34, 0x12] = .ok (.ror (.memory (.absolute 0x1234)), []) ∧
    decode [0x76, 0x34] = .ok (.ror (.memory (.zeroPageX 0x34)), []) ∧
    decode [0x7E, 0x34, 0x12] = .ok (.ror (.memory (.absoluteX 0x1234)), []) := by
  repeat' constructor

theorem test_decode_stack_flag :
    decode [0x08] = .ok (.php, []) ∧
    decode [0x18] = .ok (.clc, []) ∧
    decode [0x28] = .ok (.plp, []) ∧
    decode [0x38] = .ok (.sec, []) ∧
    decode [0x48] = .ok (.pha, []) ∧
    decode [0x58] = .ok (.cli, []) ∧
    decode [0x68] = .ok (.pla, []) ∧
    decode [0x78] = .ok (.sei, []) ∧
    decode [0xB8] = .ok (.clv, []) ∧
    decode [0xD8] = .ok (.cld, []) ∧
    decode [0xEA] = .ok (.nop, []) ∧
    decode [0xF8] = .ok (.sed, []) := by
  repeat' constructor

theorem test_decode_branch :
    decode [0x10, 0x34] = .ok (.bpl 0x34, []) ∧
    decode [0x30, 0x34] = .ok (.bmi 0x34, []) ∧
    decode [0x50, 0x34] = .ok (.bvc 0x34, []) ∧
    decode [0x70, 0x34] = .ok (.bvs 0x34, []) ∧
    decode [0x90, 0x34] = .ok (.bcc 0x34, []) ∧
    decode [0xB0, 0x34] = .ok (.bcs 0x34, []) ∧
    decode [0xD0, 0x34] = .ok (.bne 0x34, []) ∧
    decode [0xF0, 0x34] = .ok (.beq 0x34, []) := by
  repeat' constructor

theorem test_decode_arithmetic_1 :
    decode [0x61, 0x34] = .ok (.adc (.memory (.zpXIndirect 0x34)), []) ∧
    decode [0x65, 0x34] = .ok (.adc (.memory (.zeroPage 0x34)), []) ∧
    decode [0x69, 0x34] = .ok (.adc (.immediate 0x34), []) ∧
    decode [0x6D, 0x34, 0x12] = .ok (.adc (.memory (.absolute 0x1234)), []) ∧
    decode [0x71, 0x34] = .ok (.adc (.memory (.zpIndirectY 0x34)), []) ∧
    decode [0x75, 0x34] = .ok (.adc (.memory (.zeroPageX 0x34)), []) ∧
    decode [0x79, 0x34, 0x12] = .ok (.adc (.memory (.absoluteY 0x1234)), []) ∧
    decode [0x7D, 0x34, 0x12] = .ok (.adc (.memory (.absoluteX 0x1234)), []) ∧
    decode [0xC0, 0x34] = .ok (.cpy (.immediate 0x34), []) ∧
    decode [0xC1, 0x34] = .ok (.cmp (.memory (.zpXIndirect 0x34)), []) ∧
    decode [0xC4, 0x34] = .ok (.cpy (.memory (.zeroPage 0x34)), []) ∧
    decode [0xC5, 0x34] = .ok (.cmp (.memory (.zeroPage 0x34)), []) ∧
    decode [0xC9, 0x34] = .ok (.cmp (.immediate 0x34), []) ∧
    decode [0xCC, 0x34, 0x12] = .ok (.cpy (.memory (.absolute 0x1234)), []) ∧
    decode [0xCD, 0x34, 0x12] = .ok (.cmp (.memory (.absolute 0x1234)), []) ∧
    decode [0xD1, 0x34] = .ok (.cmp (.memory (.zpIndirectY 0x34)), []) ∧
    decode [0xD5, 0x34] = .ok (.cmp (.memory (.zeroPageX 0x34)), []) ∧
    decode [0xD9, 0x34, 0x12] = .ok (.cmp (.memory (.absoluteY 0x1234)), []) ∧
    decode [0xDD, 0x34, 0x12] = .ok (.cmp (.memory (.absoluteX 0x1234)), []) ∧
    decode [0xE0, 0x34] = .ok (.cpx (.immediate 0x34), []) := by
  repeat' constructor

theorem test_decode_arithmetic_2 :
    decode [0xE1, 0x34] = .ok (.sbc (.memory (.zpXIndirect 0x34)), []) ∧
    decode [0xE4, 0x34] = .ok (.cpx (.memory (.zeroPage 0x34)), []) ∧
    decode [0xE5, 0x34] = .ok (.sbc (.memory (.zeroPage 0x34)), []) ∧
    decode [0xE9, 0x34] = .ok (.sbc (.immediate 0x34), []) ∧
    decode [0xEC, 0x34, 0x12] = .ok (.cpx (.memory (.absolute 0x1234)), []) ∧
    decode [0xED, 0x34, 0x12] = .ok (.sbc (.memory (.absolute 0x1234)), []) ∧
    decode [0xF1, 0x34] = .ok (.sbc (.memory (.zpIndirectY 0x34)), []) ∧
    decode [0xF5, 0x34] = .ok (.sbc (.memory (.zeroPageX 0x34)), []) ∧
    decode [0xF9, 0x34, 0x12] = .ok (.sbc (.memory (.absoluteY 0x1234)), []) ∧
    decode [0xFD, 0x34, 0x12] = .ok (.sbc (.memory (.absoluteX 0x1234)), []) := by
  repeat' constructor

theorem test_decode_store :
    decode [0x81, 0x34] = .ok (.sta (.zpXIndirect 0x34), []) ∧
    decode [0x84, 0x34] = .ok (.sty (.zeroPage 0x34), []) ∧
    decode [0x85, 0x34] = .ok (.sta (.zeroPage 0x34), []) ∧
    decode [0x86, 0x34] = .ok (.stx (.zeroPage 0x34), []) ∧
    decode [0x8C, 0x34, 0x12] = .ok (.sty (.absolute 0x1234), []) ∧
    decode [0x8D, 0x34, 0x12] = .ok (.sta (.absolute 0x1234), []) ∧
    decode [0x8E, 0x34, 0x12] = .ok (.stx (.absolute 0x1234), []) ∧
    decode [0x91, 0x34] = .ok (.sta (.zpIndirectY 0x34), []) ∧
    decode [0x94, 0x34] = .ok (.sty (.zeroPageX 0x34), []) ∧
    decode [0x95, 0x34] = .ok (.sta (.zeroPageX 0x34), []) ∧
    decode [0x96, 0x34] = .ok (.stx (.zeroPageY 0x34), []) ∧
    decode [0x99, 0x34, 0x12] = .ok (.sta (.absoluteY 0x1234), []) ∧
    decode [0x9D, 0x34, 0x12] = .ok (.sta (.absoluteX 0x1234), []) := by
  repeat' constructor

theorem test_decode_transfer :
    decode [0x88] = .ok (.dey, []) ∧
    decode [0x8A] = .ok (.txa, []) ∧
    decode [0x98] = .ok (.tya, []) ∧
    decode [0x9A] = .ok (.txs, []) ∧
    decode [0xA8] = .ok (.tay, []) ∧
    decode [0xAA] = .ok (.tax, []) ∧
    decode [0xBA] = .ok (.tsx, []) ∧
    decode [0xC6, 0x34] = .ok (.dec (.zeroPage 0x34), []) ∧
    decode [0xC8] = .ok (.iny, []) ∧
    decode [0xCA] = .ok (.dex, []) ∧
    decode [0xCE, 0x34, 0x12] = .ok (.dec (.absolute 0x1234), []) ∧
    decode [0xD6, 0x34] = .ok (.dec (.zeroPageX 0x34), []) ∧
    decode [0xDE, 0x34, 0x12] = .ok (.dec (.absoluteX 0x1234), []) ∧
    decode [0xE6, 0x34] = .ok (.inc (.zeroPage 0x34), []) ∧
    decode [0xE8] = .ok (.inx, []) ∧
    decode [0xEE, 0x34, 0x12] = .ok (.inc (.absolute 0x1234), []) ∧
    decode [0xF6, 0x34] = .ok (.inc (.zeroPageX 0x34), []) ∧
    decode [0xFE, 0x34, 0x12] = .ok (.inc (.absoluteX 0x1234), []) := by
  repeat' constructor

theorem test_decode_load :
    decode [0xA0, 0x34] = .ok (.ldy (.immediate 0x34), []) ∧
    decode [0xA1, 0x34] = .ok (.lda (.memory (.zpXIndirect 0x34)), []) ∧
    decode [0xA2, 0x34] = .ok (.ldx (.immediate 0x34), []) ∧
    decode [0xA4, 0x34] = .ok (.ldy (.memory (.zeroPage 0x34)), []) ∧
    decode [0xA5, 0x34] = .ok (.lda (.memory (.zeroPage 0x34)), []) ∧
    decode [0xA6, 0x34] = .ok (.ldx (.memory (.zeroPage 0x34)), []) ∧
    decode [0xA9, 0x34] = .ok (.lda (.immediate 0x34), []) ∧
    decode [0xAC, 0x34, 0x12] = .ok (.ldy (.memory (.absolute 0x1234)), []) ∧
    decode [0xAD, 0x34, 0x12] = .ok (.lda (.memory (.absolute 0x1234)), []) ∧
    decode [0xAE, 0x34, 0x12] = .ok (.ldx (.memory (.absolute 0x1234)), []) ∧
    decode [0xB1, 0x34] = .ok (.lda (.memory (.zpIndirectY 0x34)), []) ∧
    decode [0xB4, 0x34] = .ok (.ldy (.memory (.zeroPageX 0x34)), []) ∧
    decode [0xB5, 0x34] = .ok (.lda (.memory (.zeroPageX 0x34)), []) ∧
    decode [0xB6, 0x34] = .ok (.ldx (.memory (.zeroPageY 0x34)), []) ∧
    decode [0xB9, 0x34, 0x12] = .ok (.lda (.memory (.absoluteY 0x1234)), []) ∧
    decode [0xBC, 0x34, 0x12] = .ok (.ldy (.memory (.absoluteX 0x1234)), []) ∧
    decode [0xBD, 0x34, 0x12] = .ok (.lda (.memory (.absoluteX 0x1234)), []) ∧
    decode [0xBE, 0x34, 0x12] = .ok (.ldx (.memory (.absoluteY 0x1234)), []) := by
  repeat' constructor

/-- The 105 undefined bytes: 30_encoding.md R92. -/
theorem test_decode_undefined : ∀ p ∈ undefinedTable, (decode [p.2]).toOption = some (p.1, []) := by decide

theorem test_decode_leaves_the_rest : decode [0xA9, 0x05, 0x00, 0xEA] = .ok (.lda (.immediate 0x05), [0x00, 0xEA]) := rfl

theorem test_decode_short : decode [0xAD, 0x34] = .error (.operandMissing 0xAD) ∧ decode [] = .error .noOpcode := ⟨rfl, rfl⟩

theorem test_encode : encode (.lda (.memory (.absoluteX 0x20FF))) = [0xBD, 0xFF, 0x20] ∧ encode (.jmp (.indirect 0x02FF)) =
    [0x6C, 0xFF, 0x02] ∧ encode .brk = [0x00] ∧ encode (.bne 0xFB) = [0xD0, 0xFB] := by decide

/-- The port operations, from the rows of 49_ppu_vt.md R290: select 0, 2, 5, 6 and 7, with the toggle for the two-write ports. -/
theorem test_decode_calls :
    decodeCall (.portWrite 0x0008 0xFF) false = some (.ppuctrlWrite 0xFF) ∧ decodeCall (.portRead 0x1FFA) true = some .ppustatusRead ∧
    decodeCall (.portWrite 5 0x7D) false = some (.ppuscrollWriteFirst 0x7D) ∧
    decodeCall (.portWrite 5 0x7D) true = some (.ppuscrollWriteSecond 0x7D) ∧
    decodeCall (.portWrite 6 0x23) false = some (.ppuaddrWriteFirst 0x23) ∧
    decodeCall (.portWrite 6 0x23) true = some (.ppuaddrWriteSecond 0x23) ∧
    decodeCall (.portRead 7) false = some .ppudataRead ∧ decodeCall (.portWrite 0x1FFF 0xAB) false = some (.ppudataWrite 0xAB) ∧
    decodeCall .fineYIncrement false = some .fineYIncrement ∧ decodeCall (.interrupt .brk) false = some .interruptBrk ∧
    decodeCall (.interrupt .irq) false = some .interruptIrq ∧ decodeCall (.interrupt .reset) false = some .interruptReset ∧
    decodeCall (.interrupt .nmi) false = some .interruptNmi := by decide

/-- Port addresses for which the table has no row: 49_ppu_vt.md R302, R303. -/
theorem test_decode_no_row :
    decodeCall (.portWrite 2 0xFF) false = none ∧ decodeCall (.portRead 0) false = none ∧ decodeCall (.portRead 5) false = none ∧
    decodeCall (.portWrite 1 0xFF) false = none ∧ decodeCall (.portRead 4) false = none := by decide

theorem test_table_words :
    decodeTableWord 8 0xE8 = some .inx ∧ decodeTableWord 8 0xAD = some (.lda (.memory (.absolute 0x0000))) ∧
    decodeTableWord 16 0x2000 = some (.ppuctrlWrite 0) ∧ decodeTableWord 16 0x3FFA = some .ppustatusRead ∧
    decodeTableWord 16 0x2005 = some (.ppuscrollWriteFirst 0) := by decide

theorem test_table_word_runs :
    (after (State.reset.withFetchWord 8 0xE8)).map (fun t => (t.x, t.pc)) = some (0x01, 0x0001) ∧
    (after (State.reset.withFetchWord 16 0x2002)).map (fun t => (t.portData, t.ppu.ppustatus)) = some (0xA0, 0x20) := by decide

/-! ### Single steps, against 95_test_vectors.md -/

theorem test_step_A4_LDX : (after (prog 0x0200 [0xB6, 0xF0] (cells [(0x000F, 0x44)] { base with y := 0x1F }))).map
    (fun t => (t.x, t.pc, t.cycles)) = some (0x44, 0x0202, 4) := by decide

theorem test_step_A11_LDA :
    (after (prog 0x0200 [0xA1, 0xFE] (cells [(0x0000, 0x04), (0x00FF, 0x00), (0x0400, 0x5A)] { base with x := 0x01 }))).map
    (fun t => (t.a, t.pc, t.cycles)) = some (0x5A, 0x0202, 6) := by decide

theorem test_step_A14_LDA :
    (after (prog 0x0200 [0xB1, 0x40] (cells [(0x0040, 0xF0), (0x0041, 0x12), (0x0310, 0x88)] { base with y := 0x20 }))).map
    (fun t => (t.a, t.pc, t.ps.n, t.cycles)) = some (0x88, 0x0202, true, 6) := by decide

theorem test_step_A17_STA :
    (after (prog 0x0200 [0x91, 0x40] (cells [(0x0040, 0xFF), (0x0041, 0x02)] { base with a := 0x5C, y := 0x01 }))).map
    (fun t => (t.cpuMem.get 0x0300, t.pc, t.cycles)) = some (0x5C, 0x0202, 7) := by decide

theorem test_step_A19_ASL : (after (prog 0x0200 [0x0A] { base with a := 0x81 })).map
    (fun t => (t.a, t.pc, t.ps.c, t.cycles)) = some (0x02, 0x0201, true, 2) := by decide

theorem test_step_A20_JMP : (after (prog 0x0200 [0x4C, 0x34, 0x12] base)).map
    (fun t => (t.pc, t.cycles)) = some (0x1234, 3) := by decide

theorem test_step_A22_JMP : (after (prog 0x0200 [0x6C, 0xFF, 0x02] (cells [(0x02FF, 0x78), (0x0300, 0x99)] base))).map
    (fun t => (t.pc, t.cycles)) = some (0x6C78, 5) := by decide

theorem test_step_M3_LDY : (after (prog 0x0200 [0xA0, 0x7F] (flagged 0x82 base))).map
    (fun t => (t.y, t.pc, t.ps.z, t.ps.n, t.cycles)) = some (0x7F, 0x0202, false, false, 2) := by decide

theorem test_step_M5_STX : (after (prog 0x0200 [0x96, 0x10] { base with x := 0x9C, y := 0xFF })).map
    (fun t => (t.cpuMem.get 0x000F, t.pc, t.cycles)) = some (0x9C, 0x0202, 4) := by decide

theorem test_step_M6_STY : (after (prog 0x0200 [0x8C, 0x34, 0x12] { base with y := 0x01 })).map
    (fun t => (t.cpuMem.get 0x0234, t.pc, t.cycles)) = some (0x01, 0x0203, 4) := by decide

theorem test_step_M7_STA : (after (prog 0x0200 [0x8D, 0x00, 0x08] { base with a := 0x77 })).map
    (fun t => (t.cpuMem.get 0x0000, t.pc, t.cycles)) = some (0x77, 0x0203, 4) := by decide

theorem test_step_M8_TAX : (after (prog 0x0200 [0xAA] { base with a := 0x80 })).map
    (fun t => (t.x, t.pc, t.ps.n, t.cycles)) = some (0x80, 0x0201, true, 2) := by decide

theorem test_step_M9_TAY : (after (prog 0x0200 [0xA8] { base with a := 0x00, y := 0x01 })).map
    (fun t => (t.y, t.pc, t.ps.z, t.cycles)) = some (0x00, 0x0201, true, 2) := by decide

theorem test_step_M10_TXA : (after (prog 0x0200 [0x8A] (flagged 0x80 { base with x := 0x01, a := 0xFF }))).map
    (fun t => (t.a, t.pc, t.ps.n, t.cycles)) = some (0x01, 0x0201, false, 2) := by decide

theorem test_step_M11_TYA : (after (prog 0x0200 [0x98] { base with y := 0xFF })).map
    (fun t => (t.a, t.pc, t.ps.n, t.cycles)) = some (0xFF, 0x0201, true, 2) := by decide

theorem test_step_M12_TSX : (after (prog 0x0200 [0xBA] { base with s := 0x00, x := 0x12 })).map
    (fun t => (t.x, t.pc, t.ps.z, t.cycles)) = some (0x00, 0x0201, true, 2) := by decide

theorem test_step_M13_TXS : (after (prog 0x0200 [0x9A] (flagged 0x80 { base with x := 0x00 }))).map
    (fun t => (t.s, t.pc, t.cycles)) = some (0x00, 0x0201, 2) := by decide

theorem test_step_M14_INC : (after (prog 0x0200 [0xE6, 0x10] (cells [(0x0010, 0xFF)] base))).map
    (fun t => (t.cpuMem.get 0x0010, t.pc, t.ps.z, t.cycles)) = some (0x00, 0x0202, true, 5) := by decide

theorem test_step_M16_DEC : (after (prog 0x0200 [0xC6, 0x10] (cells [(0x0010, 0x00)] base))).map
    (fun t => (t.cpuMem.get 0x0010, t.pc, t.ps.n, t.cycles)) = some (0xFF, 0x0202, true, 5) := by decide

theorem test_step_M18_INX : (after (prog 0x0200 [0xE8] { base with x := 0xFF })).map
    (fun t => (t.x, t.pc, t.ps.z, t.cycles)) = some (0x00, 0x0201, true, 2) := by decide

theorem test_step_M19_INY : (after (prog 0x0200 [0xC8] { base with y := 0x7F })).map
    (fun t => (t.y, t.pc, t.ps.n, t.cycles)) = some (0x80, 0x0201, true, 2) := by decide

theorem test_step_M20_DEX : (after (prog 0x0200 [0xCA] { base with x := 0x00 })).map
    (fun t => (t.x, t.pc, t.ps.n, t.cycles)) = some (0xFF, 0x0201, true, 2) := by decide

theorem test_step_M21_DEY : (after (prog 0x0200 [0x88] { base with y := 0x01 })).map
    (fun t => (t.y, t.pc, t.ps.z, t.cycles)) = some (0x00, 0x0201, true, 2) := by decide

theorem test_step_M22_ASL : (after (prog 0x0200 [0x06, 0x10] (cells [(0x0010, 0xC0)] base))).map
    (fun t => (t.cpuMem.get 0x0010, t.pc, t.ps.c, t.ps.n, t.cycles)) = some (0x80, 0x0202, true, true, 5) := by decide

theorem test_step_M23_LSR : (after (prog 0x0200 [0x5E, 0x34, 0x12] (cells [(0x0235, 0x01)] { base with x := 0x01 }))).map
    (fun t => (t.cpuMem.get 0x0235, t.pc, t.ps.c, t.ps.z, t.cycles)) = some (0x00, 0x0203, true, true, 7) := by decide

theorem test_step_M24_ROL :
    (after (prog 0x0200 [0x36, 0x10] (cells [(0x0012, 0x80)] (flagged 0x01 { base with x := 0x02 })))).map
    (fun t => (t.cpuMem.get 0x0012, t.pc, t.cycles)) = some (0x01, 0x0202, 6) := by decide

theorem test_step_M25_ROR : (after (prog 0x0200 [0x6E, 0x34, 0x12] (cells [(0x0234, 0x01)] (flagged 0x01 base)))).map
    (fun t => (t.cpuMem.get 0x0234, t.pc, t.ps.n, t.cycles)) = some (0x80, 0x0203, true, 6) := by decide

theorem test_step_M26_ADC :
    (after (prog 0x0200 [0x65, 0x10] (cells [(0x0010, 0x99)] (flagged 0x08 { base with a := 0x01 })))).map
    (fun t => (t.a, t.pc, t.ps.n, t.cycles)) = some (0x9A, 0x0202, true, 3) := by decide

theorem test_step_M27_SBC :
    (after (prog 0x0200 [0xF1, 0x40]
      (cells [(0x0040, 0x00), (0x0041, 0x03), (0x0305, 0x10)] (flagged 0x01 { base with a := 0x20, y := 0x05 })))).map
    (fun t => (t.a, t.pc, t.cycles)) = some (0x10, 0x0202, 5) := by decide

theorem test_step_M28_CMP :
    (after (prog 0x0200 [0xD9, 0x34, 0x12] (cells [(0x0244, 0x40)] { base with a := 0x40, y := 0x10 }))).map
    (fun t => (t.pc, t.ps.c, t.ps.z, t.cycles)) = some (0x0203, true, true, 4) := by decide

theorem test_step_M29_CPX : (after (prog 0x0200 [0xE0, 0x10] { base with x := 0x0F })).map
    (fun t => (t.pc, t.ps.n, t.cycles)) = some (0x0202, true, 2) := by decide

theorem test_step_M30_CPY : (after (prog 0x0200 [0xC4, 0x10] (cells [(0x0010, 0x80)] { base with y := 0x81 }))).map
    (fun t => (t.pc, t.ps.c, t.cycles)) = some (0x0202, true, 3) := by decide

theorem test_step_M31_BIT : (after (prog 0x0200 [0x2C, 0x34, 0x12] (cells [(0x0234, 0xC0)] { base with a := 0x01 }))).map
    (fun t => (t.pc, t.ps.z, t.ps.vf, t.ps.n, t.cycles)) = some (0x0203, true, true, true, 4) := by decide

theorem test_step_M32_AND :
    (after (prog 0x0200 [0x21, 0x20]
      (cells [(0x0020, 0x00), (0x0021, 0x03), (0x0300, 0xF0)] { base with a := 0x8F, x := 0x00 }))).map
    (fun t => (t.a, t.pc, t.ps.n, t.cycles)) = some (0x80, 0x0202, true, 6) := by decide

theorem test_step_B1_BEQ : (after (prog 0x1FFE [0xF0, 0x01] base)).map
    (fun t => (t.pc, t.cycles)) = some (0x2000, 2) := by decide

theorem test_step_B3_BEQ : (after (prog 0x1FFE [0xF0, 0x01] (flagged 0x02 base))).map
    (fun t => (t.pc, t.cycles)) = some (0x2001, 4) := by decide

theorem test_step_B5_BNE : (after (prog 0x0200 [0xD0, 0x80] base)).map
    (fun t => (t.pc, t.cycles)) = some (0x0182, 4) := by decide

theorem test_step_B6_BPL : (after (prog 0x0200 [0x10, 0x7F] base)).map
    (fun t => (t.pc, t.cycles)) = some (0x0281, 3) := by decide

theorem test_step_B7_BCC : (after (prog 0x0200 [0x90, 0x00] base)).map
    (fun t => (t.pc, t.cycles)) = some (0x0202, 3) := by decide

theorem test_step_B9_BCS : (after (prog 0x0200 [0xB0, 0x04] (flagged 0x01 base))).map
    (fun t => (t.pc, t.cycles)) = some (0x0206, 3) := by decide

theorem test_step_B10_BMI : (after (prog 0x0200 [0x30, 0xFD] (flagged 0x80 base))).map
    (fun t => (t.pc, t.cycles)) = some (0x01FF, 4) := by decide

theorem test_step_B11_BVC : (after (prog 0x0200 [0x50, 0x10] base)).map
    (fun t => (t.pc, t.cycles)) = some (0x0212, 3) := by decide

theorem test_step_B13_BVS : (after (prog 0x0200 [0x70, 0x10] (flagged 0x40 base))).map
    (fun t => (t.pc, t.cycles)) = some (0x0212, 3) := by decide

theorem test_step_K2_PHA : (after (prog 0x0200 [0x48] { base with a := 0x42, s := 0x00 })).map
    (fun t => (t.cpuMem.get 0x0100, t.s, t.pc, t.cycles)) = some (0x42, 0xFF, 0x0201, 3) := by decide

theorem test_step_K3_PLA : (after (prog 0x0200 [0x68] (cells [(0x0100, 0x80)] { base with s := 0xFF, a := 0x00 }))).map
    (fun t => (t.a, t.s, t.pc, t.ps.n, t.cycles)) = some (0x80, 0x00, 0x0201, true, 4) := by decide

theorem test_step_K6_PHP : (after (prog 0x0200 [0x08] (flagged 0x91 base))).map
    (fun t => (t.cpuMem.get 0x01FD, t.s, t.pc, t.cycles)) = some (0xB1, 0xFC, 0x0201, 3) := by decide

theorem test_step_K8_PLP : (after (prog 0x0200 [0x28] (cells [(0x01FE, 0x00)] (flagged 0xDF base)))).map
    (fun t => (t.ps, t.s, t.pc, t.cycles))
      = some ({ n := false, vf := false, b := false, d := false, i := false, z := false, c := false }, 0xFE, 0x0201, 4) := by decide

theorem test_step_K9_CLC : (after (prog 0x0200 [0x18] (flagged 0x01 base))).map
    (fun t => (t.pc, t.ps.c, t.cycles)) = some (0x0201, false, 2) := by decide

theorem test_step_K10_SEC : (after (prog 0x0200 [0x38] base)).map
    (fun t => (t.pc, t.ps.c, t.cycles)) = some (0x0201, true, 2) := by decide

theorem test_step_K11_CLI : (after (prog 0x0200 [0x58] (flagged 0x04 base))).map
    (fun t => (t.pc, t.ps.i, t.cycles)) = some (0x0201, false, 2) := by decide

theorem test_step_K12_SEI : (after (prog 0x0200 [0x78] base)).map
    (fun t => (t.pc, t.ps.i, t.cycles)) = some (0x0201, true, 2) := by decide

theorem test_step_K13_CLV : (after (prog 0x0200 [0xB8] (flagged 0x40 base))).map
    (fun t => (t.pc, t.ps.vf, t.cycles)) = some (0x0201, false, 2) := by decide

theorem test_step_K14_CLD : (after (prog 0x0200 [0xD8] (flagged 0x08 base))).map
    (fun t => (t.pc, t.ps.d, t.cycles)) = some (0x0201, false, 2) := by decide

theorem test_step_K15_SED : (after (prog 0x0200 [0xF8] base)).map
    (fun t => (t.pc, t.ps.d, t.cycles)) = some (0x0201, true, 2) := by decide

theorem test_step_K16_NOP : (after (prog 0x0200 [0xEA] base)).map
    (fun t => (t.pc, t.cycles)) = some (0x0201, 2) := by decide

theorem test_step_J3_JSR : (after (prog 0x02FE [0x20, 0x00, 0x80] { base with s := 0x00 })).map
    (fun t => (t.cpuMem.get 0x0100, t.cpuMem.get 0x01FF, t.s, t.pc, t.cycles)) = some (0x03, 0x00, 0xFE, 0x8000, 6) := by decide

theorem test_step_J5_RTS : (after (prog 0x8000 [0x60] (cells [(0x01FE, 0xFF), (0x01FF, 0xFF)] base))).map
    (fun t => (t.s, t.pc, t.cycles)) = some (0xFF, 0x0000, 6) := by decide

theorem test_step_J6_BRK : (after (prog 0x0300 [0x00, 0xEA] (cells [(0xFFFE, 0x00), (0xFFFF, 0x90)] (flagged 0x81 base)))).map
    (fun t => ((t.cpuMem.get 0x01FD, t.cpuMem.get 0x01FC, t.cpuMem.get 0x01FB), t.s, t.pc, t.ps.i, t.cycles))
      = some ((0x03, 0x02, 0xB1), 0xFA, 0x9000, true, 7) := by decide

theorem test_step_J8_BRK : (after (prog 0x0300 [0x00, 0xEA] (flagged 0x04 base))).map
    (fun t => (t.pc, t.cycles)) = some (0x0302, 0) := by decide

theorem test_step_J10_RTI : (after (prog 0x9000 [0x40] (cells [(0x0100, 0x12), (0x01FE, 0x10), (0x01FF, 0x34)] base))).map
    (fun t => (t.s, t.pc, t.ps.b, t.cycles)) = some (0x00, 0x1234, true, 6) := by decide

theorem test_step_J11_RTI : (after (prog 0x9000 [0x40] (cells [(0x0100, 0x80), (0x01FE, 0xEF), (0x01FF, 0x00)] base))).map
    (fun t => (t.ps, t.s, t.pc, t.cycles))
      = some ({ n := true, vf := true, b := false, d := true, i := true, z := true, c := true }, 0x00, 0x8000, 6) := by decide

theorem test_step_Z1_undefined : (after (prog 0x0200 [0x02] base)).map
    (fun t => (t.pc, t.cycles)) = some (0x0201, 0) := by decide

theorem test_step_Z2_undefined : (after (prog 0xFFFF [0xFF] base)).map
    (fun t => (t.pc, t.cycles)) = some (0x0000, 0) := by decide

theorem test_step_I1_interrupt_IRQ :
    (after ((cells [(0xFFFE, 0x00), (0xFFFF, 0x90)] (flagged 0x03 { base with pc := 0x0345 })).setTurns [.interrupt .irq])).map
    (fun t => ((t.cpuMem.get 0x01FD, t.cpuMem.get 0x01FC, t.cpuMem.get 0x01FB), t.s, t.pc, t.ps.i, t.cycles))
      = some ((0x03, 0x45, 0x23), 0xFA, 0x9000, true, 7) := by decide

theorem test_step_I2_interrupt_IRQ : (after ((flagged 0x04 { base with pc := 0x0345 }).setTurns [.interrupt .irq])).map
    (fun t => (t.pc, t.s, t.ps, t.cycles)) = some (0x0345, 0xFD, Status.ofByte 0x04, 0) := by decide

theorem test_step_I4_interrupt_NMI :
    (after ((cells [(0xFFFA, 0x34), (0xFFFB, 0x12)] (flagged 0x84 { base with pc := 0x8000 })).setTurns [.interrupt .nmi])).map
    (fun t => (t.cpuMem.get 0x01FD, t.cpuMem.get 0x01FC, t.cpuMem.get 0x01FB, t.s, t.pc, t.cycles))
      = some (0x80, 0x00, 0xA4, 0xFA, 0x1234, 7) := by decide

theorem test_step_I5_interrupt_NMI :
    (after ((cells [(0xFFFA, 0x34), (0xFFFB, 0x12)] { base with pc := 0x8000, s := 0x01 }).setTurns [.interrupt .nmi])).map
    (fun t => ((t.cpuMem.get 0x0101, t.cpuMem.get 0x0100, t.cpuMem.get 0x01FF), t.s, t.pc, t.ps.i, t.cycles))
      = some ((0x80, 0x00, 0x20), 0xFE, 0x1234, true, 7) := by decide

theorem test_step_I6_interrupt_RESET :
    (after ((cells [(0xFFFC, 0x00), (0xFFFD, 0x80)] (flagged 0x08 { base with pc := 0x1234, a := 0x55 })).setTurns [.interrupt .reset])).map
    (fun t => ((t.cpuMem.get 0x01FD, t.cpuMem.get 0x01FC, t.cpuMem.get 0x01FB), t.s, t.pc, t.ps.i, t.cycles))
      = some ((0x12, 0x34, 0x28), 0xFA, 0x8000, true, 7) := by decide

theorem test_step_I7_interrupt_RESET : (after ((flagged 0x04 { base with pc := 0x1234 }).setTurns [.interrupt .reset])).map
    (fun t => (t.pc, t.s, t.ps, t.cycles)) = some (0x1234, 0xFD, Status.ofByte 0x04, 0) := by decide

theorem test_step_I8_interrupt_BRK :
    (after ((cells [(0xFFFE, 0x00), (0xFFFF, 0x90)] { base with pc := 0x0302 }).setTurns [.interrupt .brk])).map
    (fun t => ((t.cpuMem.get 0x01FD, t.cpuMem.get 0x01FC, t.cpuMem.get 0x01FB), t.s, t.pc, t.ps.i, t.cycles))
      = some ((0x03, 0x02, 0x30), 0xFA, 0x9000, true, 7) := by decide

/-- Source example S1. -/
theorem test_step_S1_ADC : (after (prog 0x0200 [0x69, 0x01] { base with a := 0x7F })).map
    (fun t => (t.a, t.ps.c, t.ps.vf, t.ps.n)) = some (0x80, false, true, true) := by decide

/-- Source example S2. -/
theorem test_step_S2_SBC : (after (prog 0x0200 [0xE9, 0x01] (flagged 0x01 base))).map
    (fun t => (t.a, t.ps.c, t.ps.vf, t.ps.n)) = some (0xFF, false, false, true) := by decide

/-- Section 2.3. -/
theorem test_step_ORA : (after (prog 0x0200 [0x09, 0x80] { base with a := 0x0F })).map
    (fun t => (t.a, t.ps.z, t.ps.n)) = some (0x8F, false, true) := by decide

/-- 41_alu.md R144: a value with itself gives 0. -/
theorem test_step_EOR : (after (prog 0x0200 [0x49, 0xFF] { base with a := 0xFF })).map
    (fun t => (t.a, t.ps.z, t.ps.n)) = some (0x00, true, false) := by decide

theorem test_step_V2_addr_first :
    (after (called ⟨0x0000, 0x7FFF, 0, false, 0x00, 0xA0⟩ (.portWrite 6 0xFF))).map
      (fun t => (t.ppu)) =
    some (⟨0x0000, 0x3FFF, 0, true, 0x00, 0xA0⟩) := by decide

theorem test_step_V3_addr_second :
    (after (called ⟨0x1111, 0x3FFF, 0, true, 0x00, 0xA0⟩ (.portWrite 6 0x00))).map
      (fun t => (t.ppu)) =
    some (⟨0x3F00, 0x3F00, 0, false, 0x00, 0xA0⟩) := by decide

theorem test_step_V4_scroll_first :
    (after (called ⟨0x0000, 0x0000, 0, false, 0x00, 0xA0⟩ (.portWrite 5 0x7D))).map
      (fun t => (t.ppu)) =
    some (⟨0x0000, 0x000F, 5, true, 0x00, 0xA0⟩) := by decide

theorem test_step_V5_scroll_second :
    (after (called ⟨0x0000, 0x000F, 5, true, 0x00, 0xA0⟩ (.portWrite 5 0x5E))).map
      (fun t => (t.ppu)) =
    some (⟨0x0000, 0x616F, 5, false, 0x00, 0xA0⟩) := by decide

theorem test_step_V8_status :
    (after (called ⟨0x0000, 0x0000, 0, true, 0x00, 0xE0⟩ (.portRead 2))).map
      (fun t => (t.ppu, t.portData)) =
    some (⟨0x0000, 0x0000, 0, false, 0x00, 0x60⟩, 0xE0) := by decide

theorem test_step_V12_data_write :
    (after (called ⟨0x2305, 0x0000, 0, false, 0x00, 0xA0⟩ (.portWrite 7 0xAB))).map
      (fun t => (t.ppu, t.ppuMem)) =
    some (⟨0x2306, 0x0000, 0, false, 0x00, 0xA0⟩, [(0x2305, 0xAB)]) := by decide

theorem test_step_V15_data_write :
    (after (called ⟨0x7FF0, 0x0000, 0, false, 0x04, 0xA0⟩ (.portWrite 7 0x01))).map
      (fun t => (t.ppu)) =
    some (⟨0x0010, 0x0000, 0, false, 0x04, 0xA0⟩) := by decide

theorem test_step_V17_data_read :
    (after ((called ⟨0x3FFF, 0x0000, 0, false, 0x04, 0xA0⟩ (.portRead 7)).setPpuMem [(0x3F1F, 0x77)])).map
      (fun t => (t.ppu, t.portData)) =
    some (⟨0x401F, 0x0000, 0, false, 0x04, 0xA0⟩, 0x77) := by decide

theorem test_step_V19_ctrl :
    (after (called ⟨0x0000, 0x0000, 0, false, 0x00, 0xA0⟩ (.portWrite 8 0xFF))).map
      (fun t => (t.ppu)) =
    some (⟨0x0000, 0x0000, 0, false, 0xFF, 0xA0⟩) := by decide

theorem test_step_V20_status_write :
    (after (called ⟨0x0123, 0x0ABC, 0, true, 0x00, 0xA0⟩ (.portWrite 2 0xFF))).map
      (fun t => (t.ppu)) =
    some (⟨0x0123, 0x0ABC, 0, true, 0x00, 0xA0⟩) := by decide

theorem test_step_V24_fine_y :
    (after (called ⟨0x73A0, 0x0000, 0, false, 0x00, 0xA0⟩ .fineYIncrement)).map
      (fun t => (t.ppu)) =
    some (⟨0x0800, 0x0000, 0, false, 0x00, 0xA0⟩) := by decide

theorem test_step_V26_fine_y :
    (after (called ⟨0x73E0, 0x0000, 0, false, 0x00, 0xA0⟩ .fineYIncrement)).map
      (fun t => (t.ppu)) =
    some (⟨0x0000, 0x0000, 0, false, 0x00, 0xA0⟩) := by decide

/-- Row A6 on a port: `LDA $20FF,X` reads 0x2100, a mirror of `$2000`, and reports the page cross (40_addressing.md R118). -/
theorem test_step_A6_port : (after (prog 0x0200 [0xBD, 0xFF, 0x20] { base with x := 0x01 })).map
    (fun t => (t.drawn, t.pc, t.cycles, t.ppu == base.ppu)) = some (1, 0x0203, 5, true) := by decide

/-- A CPU read of `$2002` is the port operation: 20_memory.md R59, 49_ppu_vt.md R292. -/
theorem test_step_LDA_status : (after (prog 0x0200 [0xAD, 0x02, 0x20] base)).map (fun t => (t.a, t.ppu.ppustatus, t.ps.n)) =
    some (0xA0, 0x20, true) := by decide

/-- The text of `disassemble` (30_encoding.md R95). -/
theorem test_disassemble : disassemble 0x0200 (.lda (.memory (.absoluteX 0x20FF))) = "LDA $20FF,X" := by decide

/-! ### Witnesses: the hypotheses of every claim are met, clause by clause -/

/-- A memory operand of every mode, with boundary operand bytes. -/
def modes : List MemMode :=
  [.zeroPage 0xFF, .zeroPageX 0xFF, .zeroPageY 0xFF, .absolute 0xFFFF, .absoluteX 0xFFFF, .absoluteY 0x20FF, .zpXIndirect 0xFF,
   .zpIndirectY 0xFF]

/-- A source operand of every mode. -/
def sources : List Source := .immediate 0xFF :: modes.map .memory

/-- Every row of these forms has a memory operand of its mode. -/
def memoryRowsMet (rows : List Row) : Bool := rows.all fun r => modes.any fun m => m.mode == r.mode

/-- Every row of these forms has a source operand of its mode. -/
def sourceRowsMet (rows : List Row) : Bool := rows.all fun r => sources.any fun o => o.mode == r.mode

theorem test_witness_EncodingRoundTrip :
    (∀ i ∈ [Instr.lda (.immediate 0xFF), .jmp (.indirect 0xFFFF), .asl .accumulator, .brk, .undefinedFF],
      i.wf = true ∧ i.opcode.isSome = true) ∧ ∀ p ∈ undefinedTable, p.1.wf = true ∧ p.1.opcode.isSome = true := by decide

theorem test_witness_CallEncodingRoundTrip :
    (∀ i ∈ [Instr.ppuctrlWrite 0xFF, .ppustatusRead, .ppuscrollWriteSecond 0, .ppudataRead, .fineYIncrement, .interruptNmi],
      i.wf = true ∧ i.opcode.isSome = false) ∧
    decodeCall (.portWrite 5 0) false = some (.ppuscrollWriteFirst 0) ∧
    decodeCall (.portWrite 5 0) true = some (.ppuscrollWriteSecond 0) := by decide

theorem test_witness_DecodedBytesAreTheEncoding : decode [0xFD, 0xFF, 0xFF, 0x00] =
    .ok (.sbc (.memory (.absoluteX 0xFFFF)), [0x00]) := rfl

/-- Both clauses, at the lengths where they meet, for each format. -/
theorem test_witness_DecoderIsTotal :
    ([] : List Byte).length < (entryOf 0xA9).fmt.nb ∧ (entryOf 0xA9).fmt.nb ≤ [(0x00 : Byte)].length ∧
    [(0x00 : Byte)].length < (entryOf 0xAD).fmt.nb ∧ (entryOf 0xAD).fmt.nb ≤ [(0x00 : Byte), 0x00].length ∧
    (entryOf 0xEA).fmt.nb ≤ ([] : List Byte).length := by decide

/-- The three lengths, with an instruction that ends at the top of the address space among them; and both forms of the CPU's turn. -/
theorem test_witness_StepRunsDecodedInstruction :
    (let s := prog 0xFFFF [0xE8] base
     s.turns = [] ∧ (decode [(memRead s.pc s).1]).toOption = some (.inx, [])) ∧
    (let s := (prog 0x0200 [0xA9, 0x80] base).setTurns [.cpu, .fineYIncrement]
     s.turns.head? = some .cpu ∧
     (decode [(memRead s.pc s).1, (memRead (s.pc + 1) s).1]).toOption = some (.lda (.immediate 0x80), [])) ∧
    (let s := prog 0xFFFD [0x8D, 0x02, 0x20] base
     s.turns = [] ∧ (decode [(memRead s.pc s).1, (memRead (s.pc + 1) s).1, (memRead (s.pc + 2) s).1]).toOption =
       some (.sta (.absolute 0x2002), [])) := by decide

theorem test_witness_PendingCallRunsItsRow :
    Turn.portWrite 6 0x23 ≠ .cpu ∧ decodeCall (.portWrite 6 0x23) true = some (.ppuaddrWriteSecond 0x23) ∧
    decodeCall (.interrupt .irq) false = some .interruptIrq ∧ Turn.setVblank ≠ .cpu ∧ decodeCall .setVblank false = none ∧
    decodeCall (.portRead 4) false = none ∧ decodeCall (.powerResetState true) false = none := by decide

/-- A state that meets the invariant and is not the reset state, with a store as its step. -/
def storing : State := prog 0xFFFC [0x8D, 0x00, 0x08] { base with a := 0x77, ppuMem := [(0x3F1F, 0x01)] }

theorem test_witness_StepKeepsTheInvariant : storing.wf = true ∧ (after storing).isSome = true ∧
    (after storing).map (fun t => t.cpuMem == storing.cpuMem) = some false := by decide

theorem test_witness_ResetMeetsTheInvariant :
    (State.powerOn Config.cpuInit [(0x07FF, 0x01), (0x4000, 0x02), (0xFFFF, 0x03)] [(0x3F1F, 0x01)]
      { Config.params with ntMap := [(0x2400, 0x2000)] }).wf = true ∧
    (State.powerOn Config.cpuInit [(0x0800, 0x01)] [] Config.params).wf = false := by decide

theorem test_witness_StepKeepsConfiguration : (after storing).isSome = true := by decide

theorem test_witness_AluLogicAndBitTest : (alu .eor 0xFF 0xFF true).z = some true ∧ AluOp.eor ∈ [AluOp.ora, .and, .eor] := by decide

theorem test_witness_AluShiftsAndRotates : AluOp.ror ∈ [AluOp.asl, .lsr, .rol, .ror] := by decide

theorem test_witness_AluCompareIncrementDecrementPass :
    AluOp.cmp ∈ [AluOp.cmp, .inc, .dec, .pass] ∧ AluOp.pass ∈ [AluOp.inc, .dec, .pass] := by decide

theorem test_witness_AluDrivesOnlyItsFlags :
    AluOp.pass ∈ [AluOp.ora, .and, .eor, .inc, .dec, .pass] ∧ AluOp.cmp ∈ [AluOp.asl, .lsr, .rol, .ror, .cmp] ∧
    AluOp.sbc ∈ [AluOp.adc, .sbc] := by decide

theorem test_witness_CpuMirrors :
    (0x1FFF : Word).toNat < 0x2000 ∧ 0x2000 ≤ (0x2000 : Word).toNat ∧ (0x2000 : Word).toNat ≤ 0x3FFF ∧
    (0x3FFF : Word).toNat ≤ 0x3FFF ∧ regionOf 0x0000 = regionOf 0x1800 ∧ regionOf 0x2002 = regionOf 0x3FFA ∧
    regionOf 0x3FFF = .port .ppudata := by decide

theorem test_witness_StorageReadAfterWrite :
    storing.wf = true ∧ regionOf 0x1FFF = .cell 0x07FF ∧ regionOf 0x07FF = .cell 0x07FF ∧ regionOf 0x4000 = .cell 0x4000 ∧
    regionOf 0xFFFF = .cell 0xFFFF := by decide

theorem test_witness_ReadsChangePortsOnly :
    regionOf 0x3FFA = .port .ppustatus ∧ regionOf 0x2007 = .port .ppudata ∧ regionOf 0x2000 ≠ .port .ppustatus ∧
    regionOf 0x2000 ≠ .port .ppudata ∧ regionOf 0x4014 = .oamDma ∧ regionOf 0x4015 = .cell 0x4015 := by decide

theorem test_witness_PpuSpaceMirrors :
    0x3F00 ≤ (0x3F00 : Word).toNat % 0x4000 ∧ 0x3F00 ≤ (0x7FFF : Word).toNat % 0x4000 ∧ (0x3EFF : Word).toNat % 0x4000 < 0x3F00 ∧
    (0x4000 : Word).toNat % 0x4000 < 0x3F00 ∧ storing.wf = true ∧
    ppuBacking storing.cfg 0x3F20 = ppuBacking storing.cfg 0x3F00 ∧ ppuBacking storing.cfg 0x2400 ≠ ppuBacking storing.cfg 0x2000 :=
  by decide

theorem test_witness_OperandAccess :
    regionOf (resolve (.absolute 0x1FFF) base).ea = .cell 0x07FF ∧ regionOf (resolve (.absoluteX 0x3FFF) base).ea = .port .ppudata ∧
    regionOf (resolve (.zpIndirectY 0xFF) base).ea = .cell 0x0000 := by decide

/-- The forms of ORA, AND, EOR, ADC, SBC, CMP and LDA have operands; so have those of the other instructions, below. -/
theorem test_witness_LogicInstructions : sourceRowsMet (aluRows 0x09 0x05 0x15 0x0D 0x1D 0x19 0x01 0x11) = true := by decide

theorem test_witness_BitTestInstruction : memoryRowsMet [⟨.zeroPage, 0x24, 3⟩, ⟨.absolute, 0x2C, 4⟩] = true := by decide

theorem test_witness_ShiftInstructions : Place.accumulator.mode = .accumulator ∧
    memoryRowsMet ((shiftRows 0x0A 0x06 0x16 0x0E 0x1E).drop 1) = true := by decide

theorem test_witness_AddWithCarryInstruction : sourceRowsMet (aluRows 0x69 0x65 0x75 0x6D 0x7D 0x79 0x61 0x71) = true := by decide

theorem test_witness_SubtractWithBorrowInstruction :
    sourceRowsMet (aluRows 0xE9 0xE5 0xF5 0xED 0xFD 0xF9 0xE1 0xF1) = true := by decide

theorem test_witness_CompareInstructions :
    sourceRowsMet (aluRows 0xC9 0xC5 0xD5 0xCD 0xDD 0xD9 0xC1 0xD1) = true ∧
    sourceRowsMet [⟨.immediate, 0xE0, 2⟩, ⟨.zeroPage, 0xE4, 3⟩, ⟨.absolute, 0xEC, 4⟩] = true ∧
    (Instr.cpx (.memory (.absolute 0xFFFF))).wf = true ∧ (Instr.cpy (.immediate 0xFF)).wf = true := by decide

theorem test_witness_LoadInstructions :
    sourceRowsMet (aluRows 0xA9 0xA5 0xB5 0xAD 0xBD 0xB9 0xA1 0xB1) = true ∧
    sourceRowsMet [⟨.immediate, 0xA2, 2⟩, ⟨.zeroPage, 0xA6, 3⟩, ⟨.zeroPageY, 0xB6, 4⟩, ⟨.absolute, 0xAE, 4⟩,
      ⟨.absoluteY, 0xBE, 4⟩] = true ∧
    sourceRowsMet [⟨.immediate, 0xA0, 2⟩, ⟨.zeroPage, 0xA4, 3⟩, ⟨.zeroPageX, 0xB4, 4⟩, ⟨.absolute, 0xAC, 4⟩,
      ⟨.absoluteX, 0xBC, 4⟩] = true := by decide

theorem test_witness_StoreInstructions :
    memoryRowsMet [⟨.zeroPage, 0x85, 3⟩, ⟨.zeroPageX, 0x95, 4⟩, ⟨.absolute, 0x8D, 4⟩, ⟨.absoluteX, 0x9D, 5⟩, ⟨.absoluteY, 0x99, 5⟩,
      ⟨.zpXIndirect, 0x81, 6⟩, ⟨.zpIndirectY, 0x91, 6⟩] = true ∧
    memoryRowsMet [⟨.zeroPage, 0x86, 3⟩, ⟨.zeroPageY, 0x96, 4⟩, ⟨.absolute, 0x8E, 4⟩] = true ∧
    memoryRowsMet [⟨.zeroPage, 0x84, 3⟩, ⟨.zeroPageX, 0x94, 4⟩, ⟨.absolute, 0x8C, 4⟩] = true := by decide

theorem test_witness_MemoryIncrementDecrement :
    memoryRowsMet [⟨.zeroPage, 0xE6, 5⟩, ⟨.zeroPageX, 0xF6, 6⟩, ⟨.absolute, 0xEE, 6⟩, ⟨.absoluteX, 0xFE, 7⟩] = true := by decide

/-- Each branch condition, met and not met. -/
theorem test_witness_BranchInstructions :
    (let s := flagged 0xFF base
     s.ps.c = true ∧ s.ps.z = true ∧ s.ps.n = true ∧ s.ps.vf = true) ∧
    (let s := flagged 0x00 base
     s.ps.c = false ∧ s.ps.z = false ∧ s.ps.n = false ∧ s.ps.vf = false) := by decide

theorem test_witness_BreakInstruction : (flagged 0x04 base).ps.i = true ∧ (flagged 0xFB base).ps.i = false := by decide

theorem test_witness_UndefinedOpcodesAreNoOps :
    (Instr.undefinedFF, (0xFF : Byte)) ∈ undefinedTable ∧
    (let s := prog 0xFFFF [0xFF] base
     s.turns = [] ∧ (memRead s.pc s).1 = 0xFF) := by decide

/-- The four types with `i` set and clear: only the NMI passes the gate with `i` set. -/
theorem test_witness_InterruptRequests :
    (let s := flagged 0x04 base
     (s.ps.i && true) = true ∧ (s.ps.i && false) = false) ∧
    (let s := flagged 0x00 base
     (s.ps.i && true) = false) := by decide

theorem test_witness_StackRoundTrips :
    (let s := { base with s := 0x00 }
     s.wf = true ∧ s.ps.i = false) ∧
    (let s := { base with s := 0xFF }
     s.wf = true ∧ s.ps.i = false) ∧
    (let s := flagged 0xFF { base with s := 0x02 }
     s.wf = true ∧ s.ps.i = true) := by decide

/-- What an instruction does to the state, when it completes. -/
def ran (i : Instr) (s : State) : Option State :=
  match exec i s with
  | .next t => some t
  | .fault _ => none
  | .refused _ => none

/-- Every "changes only if" clause has a state in which the register does change, and the two ways for `v`. -/
theorem test_witness_ToggleAndScrollRegistersChangeOnlyAsListed :
    (portWrite .ppuscroll 0xFF base).ppu.t ≠ base.ppu.t ∧ (portWrite .ppuaddr 0xFF base).ppu.t ≠ base.ppu.t ∧
    (let s := { base with cfg := { Config.params with ppuctrlWritesTNt := true } }
     (portWrite .ppuctrl 0x03 s).ppu.t ≠ s.ppu.t) ∧
    (let s := { base with ppu := { Ppu.powerOn with w := true } }
     (portWrite .ppuaddr 0xFF s).ppu.v ≠ s.ppu.v) ∧
    (portWrite .ppudata 0x00 base).ppu.v ≠ base.ppu.v ∧ (portRead .ppudata base).2.ppu.v ≠ base.ppu.v ∧
    (portWrite .ppuscroll 0x07 base).ppu.fx ≠ base.ppu.fx := by decide

/-- The same in the fetch, with the opcode at a port, and in the calls without a row. -/
theorem test_witness_ToggleAndScrollRegistersChangeOnlyAsListed_fetch_calls :
    (let s := { base with pc := 0x2002, ppu := { Ppu.powerOn with w := true } }
     (fetch s).2.ppu.w ≠ s.ppu.w) ∧
    (let s := { base with ppu := { Ppu.powerOn with ppustatus := 0xA9, w := true }, pc := 0x200A }
     (fetch s).2.ppu.w ≠ s.ppu.w) ∧
    (fetch { base with pc := 0x3FFF }).2.ppu.v ≠ base.ppu.v ∧
    (let s := { base with ppu := { Ppu.powerOn with t := 0x1234, fx := 5, w := true, v := 0x0042 } }
     (∀ r, decodeCall (.powerResetState r) s.ppu.w = none) ∧
     (callNoRow (.powerResetState true) s).ppu.w ≠ s.ppu.w ∧ (callNoRow (.powerResetState true) s).ppu.t ≠ s.ppu.t ∧
     (callNoRow (.powerResetState true) s).ppu.fx ≠ s.ppu.fx ∧ (callNoRow (.powerResetState false) s).ppu.v ≠ s.ppu.v) := by decide

/-- The same in `exec`: each way in which an instruction or a row reaches the registers. -/
theorem test_witness_ToggleAndScrollRegistersChangeOnlyAsListed_exec :
    (let s := { base with ppu := { Ppu.powerOn with t := 0x1234, w := true } }
     (ran (.lda (.memory (.absolute 0x3FFA))) s).map (fun t => t.ppu.w != s.ppu.w) = some true ∧
     (ran (.jmp (.indirect 0x2001)) s).map (fun t => t.ppu.w != s.ppu.w) = some true ∧
     (ran .ppustatusRead s).map (fun t => t.ppu.w != s.ppu.w) = some true ∧
     (ran (.sta (.absolute 0x2006)) s).map (fun t => (t.ppu.v != s.ppu.v, t.ppu.w)) = some (true, false) ∧
     (ran (.ppuaddrWriteSecond 0x77) s).map (fun t => t.ppu.v != s.ppu.v) = some true) ∧
    (let s := { base with a := 0x0F }
     (ran (.sta (.absolute 0x2005)) s).map (fun t => (t.ppu.w, t.ppu.t != s.ppu.t, t.ppu.fx)) = some (true, true, 7) ∧
     (ran (.sta (.absolute 0x2007)) s).map (fun t => t.ppu.v != s.ppu.v) = some true ∧
     (ran (.ppuscrollWriteFirst 0x0F) s).map (fun t => (t.ppu.w, t.ppu.t != s.ppu.t, t.ppu.fx)) = some (true, true, 7)) ∧
    (ran .fineYIncrement base).map (fun t => t.ppu.v != base.ppu.v) = some true ∧
    (ran .ppudataRead base).map (fun t => t.ppu.v != base.ppu.v) = some true ∧
    (ran (.ppudataWrite 0x00) base).map (fun t => t.ppu.v != base.ppu.v) = some true ∧
    (ran (.bit (.absolute 0x2007)) base).map (fun t => t.ppu.v != base.ppu.v) = some true ∧
    (let s := { base with cfg := { Config.params with ppuctrlWritesTNt := true } }
     (ran (.ppuctrlWrite 0x03) s).map (fun t => t.ppu.t != s.ppu.t) = some true) := by decide

/-- The clauses, at the ends of the port range; those for the accesses without a row are the ones of the turns too. -/
theorem test_witness_CpuAccessIsThePortOperation :
    decodeCall (.portWrite 0x1FFF 0xFF) base.ppu.w = some (.ppudataWrite 0xFF) ∧
    decodeCall (.portWrite 0x0000 0xFF) base.ppu.w = some (.ppuctrlWrite 0xFF) ∧
    decodeCall (.portWrite 0x0002 0xFF) base.ppu.w = none ∧ decodeCall (.portWrite 0x1FF9 0xFF) base.ppu.w = none ∧
    decodeCall (.portRead 0x1FFF) base.ppu.w = some .ppudataRead ∧ decodeCall (.portRead 0x0000) base.ppu.w = none ∧
    decodeCall (.portRead 0x1FFE) base.ppu.w = none := by decide

/-- Each flag does change in an instruction that completes. -/
theorem test_witness_FlagsChangeOnlyWhereListed :
    (ran .sec base).map (fun t => t.ps.c != base.ps.c) = some true ∧
    (ran (.lda (.immediate 0x00)) base).map (fun t => t.ps.z != base.ps.z) = some true ∧
    (ran (.bit (.zeroPage 0x10)) (cells [(0x0010, 0xC0)] base)).map (fun t => (t.ps.n, t.ps.vf)) = some (true, true) ∧
    (ran .interruptNmi base).map (fun t => t.ps.i != base.ps.i) = some true ∧
    (ran .sed base).map (fun t => t.ps.d != base.ps.d) = some true ∧
    (ran .rti (cells [(0x01FE, 0x10)] base)).map (fun t => t.ps.b != base.ps.b) = some true := by decide

/-- Each register does change in an instruction that completes. -/
theorem test_witness_RegistersChangeOnlyWhereListed :
    (ran (.lda (.immediate 0x01)) base).map (fun t => t.a != base.a) = some true ∧
    (ran .tsx base).map (fun t => t.x != base.x) = some true ∧ (ran .iny base).map (fun t => t.y != base.y) = some true ∧
    (ran .txs base).map (fun t => t.s != base.s) = some true ∧ (ran (.bcc 0x01) base).map (fun t => t.pc != base.pc) = some true :=
  by decide

theorem test_witness_StoresWriteNothingElse :
    Instr.dec (.absolute 0x0800) ∈ storeForms (.absolute 0x0800) ∧
    regionOf (resolve (.absolute 0x0800) base).ea = .cell 0x0000 ∧ regionOf 0x0001 ≠ .cell 0x0000 ∧
    regionOf (resolve (.absolute 0x0800) base).ea ≠ .port .ppudata ∧
    (let s := { base with s := 0x00 }
     regionOf 0x0101 ≠ .cell (stackCell s.s) ∧ regionOf 0x01FE ≠ .cell (stackCell s.s) ∧
     regionOf 0x01FE ≠ .cell (stackCell (s.s - 1)) ∧ regionOf 0x01FD ≠ .cell (stackCell (s.s - 2))) := by decide

theorem test_witness_OtherInstructionsStoreNothing :
    stores (.lda (.memory (.absolute 0x2007))) = false ∧ (ran (.lda (.memory (.absolute 0x2007))) base).isSome = true ∧
    stores .plp = false ∧ (ran .plp base).isSome = true := by decide


end Sys2Proof.Tests
end

/-! ### What the stack, a call, the status byte and the stores leave unchanged (00_scope.md) -/

namespace Sys2Proof.Machine

open Sys2Proof.Claims

/-! #### Push and Pull -/

@[simp] theorem push_s (v : Byte) (s : State) : (push v s).s = s.s - 1 := by rw [push_eq]; rfl

@[simp] theorem push_ppuMem (v : Byte) (s : State) : (push v s).ppuMem = s.ppuMem := by rw [push_eq]; rfl

/-- Settles O25: both sides are read off `push_eq` and `pull_eq`. -/
theorem pushAndPull : Obligations.PushAndPull := by
  refine ⟨fun v s => ⟨s.s - 1, ?_, push_eq v s⟩, fun s => ⟨s.s + 1, BitVec.toNat_add s.s 1, pull_eq s⟩⟩
  rw [byte_pred, BitVec.toNat_ofNat]

/-! #### A pending call -/

/-- A turn that is not the CPU's is run as a call, in the state with that turn taken off. -/
theorem step_of_call {s : State} {t : Turn} {ts : List Turn} (hs : s.turns = t :: ts) (ht : t ≠ .cpu) :
    step s = runCall t (s.setTurns ts) := by
  unfold step
  rw [hs]
  cases t with
  | cpu => exact absurd rfl ht
  | _ => rfl

theorem runCall_of_row {t : Turn} {s : State} {i : Instr} (h : decodeCall t s.ppu.w = some i) :
    runCall t s = exec i s := by
  rw [runCall, h]

theorem runCall_of_noRow {t : Turn} {s : State} (h : decodeCall t s.ppu.w = none) :
    runCall t s = .next (callNoRow t s) := by
  rw [runCall, h]

/-- Settles O7: taking the turn off leaves the toggle `w`, so the call decodes as it did. -/
theorem pendingCallRunsItsRow : Obligations.PendingCallRunsItsRow := by
  intro s t ts hs ht
  rw [step_of_call hs ht]
  exact ⟨fun i hi => runCall_of_row (s := s.setTurns ts) hi, fun hn => runCall_of_noRow (s := s.setTurns ts) hn⟩

/-! #### The packed status -/

/-- The packed byte as the sum of its weighted flags (00_scope.md R12). -/
theorem pack_toNat (p : Status) (bflag : Bool) : (pack p bflag).toNat =
    p.n.toNat * 128 + p.vf.toNat * 64 + 32 + bflag.toNat * 16 + p.d.toNat * 8 + p.i.toNat * 4 + p.z.toNat * 2
      + p.c.toNat := by
  simp only [pack, append_toNat, BitVec.toNat_ofBool, BitVec.toNat_ofNat]
  omega

theorem pack_eq_statusByte (p : Status) (bflag : Bool) : pack p bflag = statusByte p bflag := by
  rw [statusByte, ← pack_toNat, BitVec.ofNat_toNat, BitVec.setWidth_eq]

theorem pack_eq_ofBoolListLE (p : Status) (bflag : Bool) :
    pack p bflag = BitVec.ofBoolListLE [p.c, p.z, p.i, p.d, bflag, true, p.vf, p.n] := by
  have hn : (0#0).concat p.n = BitVec.ofBool p.n := by cases p.n <;> rfl
  simp only [BitVec.ofBoolListLE, hn]
  rfl

/-- Every bit of a packed status, from bit 0 up; bit 5 is 1 (00_scope.md R12). -/
theorem pack_getLsbD (p : Status) (bflag : Bool) (j : Nat) :
    (pack p bflag).getLsbD j = [p.c, p.z, p.i, p.d, bflag, true, p.vf, p.n].getD j false := by
  rw [pack_eq_ofBoolListLE]
  exact BitVec.getLsbD_ofBoolListLE

/-- Every flag but `b` comes back from its bit of the packed byte. -/
theorem unpack_pack (p : Status) (bflag keepb : Bool) :
    unpack (pack p bflag) keepb = { p with b := bflag && keepb } := by
  simp only [unpack, pack_getLsbD, Bool.and_comm keepb]
  rfl

/-- Settles O13: bits 5 and 4, and the flags unpacked, are read off `pack_getLsbD`. -/
theorem packAndUnpack : Obligations.PackAndUnpack :=
  ⟨fun p bflag => ⟨pack_eq_statusByte p bflag, pack_getLsbD p bflag 5, pack_getLsbD p bflag 4⟩,
    fun _ => ⟨rfl, rfl⟩, unpack_pack, fun s => pack_eq_statusByte s.ps s.ps.b⟩

/-! #### A store to a memory operand -/

/-- From `s` to `t`, storage changes at most where `addr` leads, and PPU memory only if that is `$2007`. -/
def StoredOnlyAt (addr : Word) (s t : State) : Prop :=
  (∀ a, regionOf a ≠ regionOf addr → peek a t = peek a s) ∧ (regionOf addr ≠ .port .ppudata → t.ppuMem = s.ppuMem)

theorem memWrite_storedOnlyAt (addr : Word) (v : Byte) (s : State) : StoredOnlyAt addr s (memWrite addr v s) :=
  ⟨fun _ h => peek_memWrite_other h v s, fun h => memWrite_ppuMem h v s⟩

/-- Only the two memories count. -/
theorem StoredOnlyAt.congr {addr : Word} {s t s' t' : State} (h : StoredOnlyAt addr s t) (hs : s'.cpuMem = s.cpuMem)
    (hs' : s'.ppuMem = s.ppuMem) (ht : t'.cpuMem = t.cpuMem) (ht' : t'.ppuMem = t.ppuMem) : StoredOnlyAt addr s' t' := by
  obtain ⟨hcpu, hppu⟩ := h
  refine ⟨fun a ha => ?_, fun ha => ?_⟩
  · rw [peek_congr ht, peek_congr hs, hcpu a ha]
  · rw [ht', hs', hppu ha]

theorem store_storedOnlyAt (v : Byte) (m : MemMode) (i : Instr) (s : State) :
    StoredOnlyAt (resolve m s).ea s (store v m i s) := by
  rw [store_eq]
  exact (memWrite_storedOnlyAt (resolve m s).ea v s).congr rfl rfl rfl rfl

/-- The read before the write changes neither memory (43_shift_rotate.md R180). -/
theorem modifyMem_storedOnlyAt (op : AluOp) (m : MemMode) (i : Instr) (s : State) :
    StoredOnlyAt (resolve m s).ea s (modifyMem op m i s) := by
  have hread := memRead_portsOnly (resolve m s).ea s
  rw [modifyMem_eq]
  exact (memWrite_storedOnlyAt (resolve m s).ea _ _).congr hread.cpuMem.symm hread.ppuMem.symm rfl rfl

theorem exec_storeForm_storedOnlyAt {m : MemMode} {i : Instr} (hi : i ∈ storeForms m) (s : State) :
    ∃ t, exec i s = .next t ∧ StoredOnlyAt (resolve m s).ea s t := by
  simp only [storeForms, List.mem_cons, List.not_mem_nil, or_false] at hi
  obtain rfl | rfl | rfl | rfl | rfl | rfl | rfl | rfl | rfl := hi
  · exact ⟨_, rfl, store_storedOnlyAt s.a m _ s⟩
  · exact ⟨_, rfl, store_storedOnlyAt s.x m _ s⟩
  · exact ⟨_, rfl, store_storedOnlyAt s.y m _ s⟩
  · exact ⟨_, rfl, modifyMem_storedOnlyAt .inc m _ s⟩
  · exact ⟨_, rfl, modifyMem_storedOnlyAt .dec m _ s⟩
  · exact ⟨_, rfl, modifyMem_storedOnlyAt .asl m _ s⟩
  · exact ⟨_, rfl, modifyMem_storedOnlyAt .lsr m _ s⟩
  · exact ⟨_, rfl, modifyMem_storedOnlyAt .rol m _ s⟩
  · exact ⟨_, rfl, modifyMem_storedOnlyAt .ror m _ s⟩

/-! #### A push and an interrupt frame -/

/-- A push leaves every byte but its stack cell alone. -/
theorem peek_push_other {a : Word} {s : State} (h : regionOf a ≠ .cell (stackCell s.s)) (v : Byte) :
    peek a (push v s) = peek a s :=
  peek_memWrite_other (by rwa [regionOf_stackAddr]) v s

/-- Two pushes leave every byte but their two stack cells alone. -/
theorem peek_push_push_other {a : Word} {s : State} (h0 : regionOf a ≠ .cell (stackCell s.s))
    (h1 : regionOf a ≠ .cell (stackCell (s.s - 1))) (v u : Byte) : peek a (push u (push v s)) = peek a s := by
  rw [peek_push_other (by rwa [push_s]), peek_push_other h0]

/-- The frame is three pushes, so it leaves every byte but its three stack cells alone. -/
theorem peek_pushFrame_other {a : Word} {s : State} (h0 : regionOf a ≠ .cell (stackCell s.s))
    (h1 : regionOf a ≠ .cell (stackCell (s.s - 1))) (h2 : regionOf a ≠ .cell (stackCell (s.s - 2))) (k : IntType) :
    peek a (pushFrame k s) = peek a s := by
  have hs : s.s - 1 - 1 = s.s - 2 := BitVec.sub_sub s.s 1 1
  calc peek a (pushFrame k s)
      = peek a (push (pack s.ps (k == .brk)) (push (lo s.pc) (push (hi s.pc) s))) := peek_congr rfl a
    _ = peek a (push (lo s.pc) (push (hi s.pc) s)) := peek_push_other (by rwa [push_s, push_s, hs]) _
    _ = peek a s := peek_push_push_other h0 h1 _ _

/-- From `s` to `t`, PPU memory and the port engine stay, and storage changes at most in the three stack cells from `s.s` down. -/
def FramedOnly (s t : State) : Prop :=
  t.ppuMem = s.ppuMem ∧ t.ppu = s.ppu ∧
    ∀ a, regionOf a ≠ .cell (stackCell s.s) → regionOf a ≠ .cell (stackCell (s.s - 1)) →
      regionOf a ≠ .cell (stackCell (s.s - 2)) → peek a t = peek a s

/-- An interrupt that the gate masks changes no memory, and one that is taken pushes its frame (60_exceptions.md R322, R324). -/
theorem takeInterrupt_framedOnly (k : IntType) (s : State) : FramedOnly s (takeInterrupt k s) := by
  cases hm : masked k s with
  | true =>
    rw [takeInterrupt_masked hm]
    exact ⟨rfl, rfl, fun a _ _ _ => peek_congr rfl a⟩
  | false =>
    have hmem : (takeInterrupt k s).cpuMem = (pushFrame k s).cpuMem := by
      rw [takeInterrupt_taken hm, pushFrame_eq]
    refine ⟨?_, ?_, fun a h0 h1 h2 => ?_⟩
    · rw [takeInterrupt_taken hm]
    · rw [takeInterrupt_taken hm]
    · rw [peek_congr hmem, peek_pushFrame_other h0 h1 h2]

theorem exec_entersInterrupt_framedOnly {i : Instr}
    (hi : i ∈ [Instr.brk, .interruptBrk, .interruptIrq, .interruptReset, .interruptNmi]) (s : State) :
    ∃ t, exec i s = .next t ∧ FramedOnly s t := by
  simp only [List.mem_cons, List.not_mem_nil, or_false] at hi
  obtain rfl | rfl | rfl | rfl | rfl := hi
  · exact ⟨_, rfl, takeInterrupt_framedOnly .brk (s.setPc (s.pc + 1))⟩
  · exact ⟨_, rfl, takeInterrupt_framedOnly .brk s⟩
  · exact ⟨_, rfl, takeInterrupt_framedOnly .irq s⟩
  · exact ⟨_, rfl, takeInterrupt_framedOnly .reset s⟩
  · exact ⟨_, rfl, takeInterrupt_framedOnly .nmi s⟩

/-- PHA and PHP are one push each. -/
theorem exec_phaPhp_frame {i : Instr} (hi : i ∈ [Instr.pha, .php]) (s : State) :
    ∃ t, exec i s = .next t ∧ t.ppuMem = s.ppuMem ∧
      ∀ a, regionOf a ≠ .cell (stackCell s.s) → peek a t = peek a s := by
  simp only [List.mem_cons, List.not_mem_nil, or_false] at hi
  obtain rfl | rfl := hi
  · exact ⟨_, rfl, push_ppuMem _ s, fun _ h => peek_push_other h _⟩
  · exact ⟨_, rfl, push_ppuMem _ s, fun _ h => peek_push_other h _⟩

/-- JSR is two pushes (48_control.md R271). -/
theorem exec_jsr_frame (s : State) (w : Word) :
    ∃ t, exec (.jsr w) s = .next t ∧ t.ppuMem = s.ppuMem ∧
      ∀ a, regionOf a ≠ .cell (stackCell s.s) → regionOf a ≠ .cell (stackCell (s.s - 1)) → peek a t = peek a s :=
  ⟨_, rfl, (push_ppuMem _ _).trans (push_ppuMem _ s), fun _ h0 h1 => peek_push_push_other h0 h1 _ _⟩

/-- Settles O59: a store writes where the resolver's address leads, and the rest are pushes. -/
theorem storesWriteNothingElse : Obligations.StoresWriteNothingElse :=
  ⟨fun _ s _ hi => exec_storeForm_storedOnlyAt hi s, fun s _ hi => exec_phaPhp_frame hi s, exec_jsr_frame,
    fun s _ hi => exec_entersInterrupt_framedOnly hi s⟩

end Sys2Proof.Machine

/-! ### What changes the CPU registers, the flags and the configuration (10_state.md) -/

namespace Sys2Proof.Machine

open Sys2Proof.Claims

/-- From `s` to `t`, of the CPU registers and flags only those change that the rules list for the operation `i` (10_state.md R20
to R30), and the configuration stays (R40). Memory, the ports and the model's own fields are free. -/
def ListedOnly (i : Instr) (s t : State) : Prop :=
  t = { t with
    a := bif writesA i then t.a else s.a
    x := bif writesX i then t.x else s.x
    y := bif writesY i then t.y else s.y
    s := bif writesS i then t.s else s.s
    pc := bif writesPc i then t.pc else s.pc
    ps :=
      { n := bif writesZ i then t.ps.n else s.ps.n
        vf := bif writesV i then t.ps.vf else s.ps.vf
        b := bif writesB i then t.ps.b else s.ps.b
        d := bif writesD i then t.ps.d else s.ps.d
        i := bif writesI i then t.ps.i else s.ps.i
        z := bif writesZ i then t.ps.z else s.ps.z
        c := bif writesC i then t.ps.c else s.ps.c }
    cfg := s.cfg }

/-- An interrupt, masked or taken, is an update of the stack, `i`, `pc` and the count (60_exceptions.md R322, R324). -/
theorem takeInterrupt_eq_update (k : IntType) (s : State) : ∃ mem sp i pc n, takeInterrupt k s =
    { s with cpuMem := mem, s := sp, ps := { s.ps with i := i }, pc := pc, cycles := n } := by
  cases hm : masked k s with
  | true => exact ⟨_, _, _, _, _, takeInterrupt_masked hm⟩
  | false => exact ⟨_, _, _, _, _, takeInterrupt_taken hm⟩

/-- The equation of its shape gives an operation's next state as one update of `s`, and the fields it does not name are those that are
not listed for it. -/
theorem exec_listedOnly (i : Instr) (s : State) : ∃ t, exec i s = .next t ∧ ListedOnly i s t := by
  cases i with
  | ora o | and o | eor o | adc o | sbc o => exact ⟨_, rfl, by rw [aluToA_eq]; rfl⟩
  | cmp o | cpx o | cpy o | bit m => exact ⟨_, rfl, by rw [aluTest_eq]; rfl⟩
  | lda o => exact ⟨_, rfl, by rw [loadA_eq]; rfl⟩
  | ldx o => exact ⟨_, rfl, by rw [loadX_eq]; rfl⟩
  | ldy o => exact ⟨_, rfl, by rw [loadY_eq]; rfl⟩
  | sta m | stx m | sty m => exact ⟨_, rfl, by rw [store_eq]; rfl⟩
  | inc m | dec m => exact ⟨_, rfl, by rw [modifyMem_eq]; rfl⟩
  | asl o | lsr o | rol o | ror o =>
    cases o with
    | accumulator => exact ⟨_, rfl, rfl⟩
    | memory m => exact ⟨_, rfl, by rw [modify, modifyMem_eq]; rfl⟩
  | bcc b | bcs b | beq b | bmi b | bne b | bpl b | bvc b | bvs b => exact ⟨_, rfl, by rw [branch_eq]; rfl⟩
  | pha | php => exact ⟨_, rfl, by rw [push_eq]; rfl⟩
  | pla | plp => exact ⟨_, rfl, by rw [pull_eq]; rfl⟩
  | jmp t => exact ⟨_, rfl, by rw [jmp_eq]; rfl⟩
  | jsr w => exact ⟨_, rfl, by rw [push_eq, push_eq]; rfl⟩
  | rts => exact ⟨_, rfl, by rw [rts_eq]; rfl⟩
  | rti => exact ⟨_, rfl, by rw [returnFromInterrupt_eq]; rfl⟩
  | brk | interruptBrk | interruptIrq | interruptReset | interruptNmi =>
    refine ⟨_, rfl, ?_⟩
    obtain ⟨_, _, _, _, _, h⟩ := takeInterrupt_eq_update _ _
    rw [h]
    rfl
  | _ => exact ⟨_, rfl, rfl⟩

/-- What `exec` is shown to give holds of every next state it gives. -/
theorem of_exec_next {P : State → Prop} {i : Instr} {s t : State} (hex : ∃ u, exec i s = .next u ∧ P u)
    (ht : exec i s = .next t) : P t := by
  obtain ⟨u, hu, hP⟩ := hex
  rw [hu] at ht
  cases ht
  exact hP

theorem listedOnly_of_exec {i : Instr} {s t : State} (h : exec i s = .next t) : ListedOnly i s t :=
  of_exec_next (exec_listedOnly i s) h

theorem ListedOnly.cfg {i : Instr} {s t : State} (h : ListedOnly i s t) : t.cfg = s.cfg := by rw [h]

theorem WritesOnly.cfg {s t : State} (h : WritesOnly s t) : t.cfg = s.cfg := by rw [h]

/-- A field that keeps its value where it is not listed, and changed, is listed. -/
theorem listed_of_ne {α : Type} {listed : Bool} {new old : α} (h : new = bif listed then new else old) (hne : new ≠ old) :
    listed = true := by
  cases listed with
  | true => rfl
  | false => exact absurd h hne

/-- Settles O57: each flag is read off `listedOnly_of_exec`. -/
theorem flagsChangeOnlyWhereListed : Obligations.FlagsChangeOnlyWhereListed := by
  intro i s t ht
  have h : t.ps = _ := congrArg State.ps (listedOnly_of_exec ht)
  exact ⟨listed_of_ne (congrArg Status.c h), listed_of_ne (congrArg Status.z h), listed_of_ne (congrArg Status.n h),
    listed_of_ne (congrArg Status.vf h), listed_of_ne (congrArg Status.i h), listed_of_ne (congrArg Status.d h),
    listed_of_ne (congrArg Status.b h)⟩

/-- Settles O58: each register is read off `listedOnly_of_exec`. -/
theorem registersChangeOnlyWhereListed : Obligations.RegistersChangeOnlyWhereListed := by
  intro i s t ht
  have h := listedOnly_of_exec ht
  exact ⟨listed_of_ne (congrArg State.a h), listed_of_ne (congrArg State.x h), listed_of_ne (congrArg State.y h),
    listed_of_ne (congrArg State.s h), listed_of_ne (congrArg State.pc h)⟩

/-! #### The configuration -/

theorem cpuStep_cfg {s t : State} (h : cpuStep s = .next t) : t.cfg = s.cfg :=
  (listedOnly_of_exec h).cfg.trans (fetch_portsOnly s).cfg

/-- No call without a row writes the configuration (10_state.md R40). -/
theorem callNoRow_cfg (c : Turn) (s : State) : (callNoRow c s).cfg = s.cfg := by
  cases c with
  | portRead off => exact (portRead_portsOnly _ s).cfg
  | portWrite off d => exact (portWrite_writesOnly _ d s).cfg
  | powerResetState isReset => cases isReset <;> rfl
  | _ => rfl

theorem runCall_cfg {c : Turn} {s t : State} (h : runCall c s = .next t) : t.cfg = s.cfg := by
  cases hc : decodeCall c s.ppu.w with
  | some i =>
    rw [runCall_of_row hc] at h
    exact (listedOnly_of_exec h).cfg
  | none =>
    rw [runCall_of_noRow hc] at h
    cases h
    exact callNoRow_cfg c s

/-- Settles O11: neither the CPU's turn nor a call writes the configuration. -/
theorem stepKeepsConfiguration : Obligations.StepKeepsConfiguration := by
  intro s t h
  cases hs : s.turns with
  | nil =>
    rw [step, hs] at h
    exact cpuStep_cfg h
  | cons c ts =>
    by_cases hc : c = .cpu
    · subst hc
      rw [step, hs] at h
      exact cpuStep_cfg (s := s.setTurns ts) h
    · rw [step_of_call hs hc] at h
      exact runCall_cfg (s := s.setTurns ts) h

end Sys2Proof.Machine

/-! ### What changes `w`, `t`, `v` and `fx` (49_ppu_vt.md R297, R300, R304) -/

namespace Sys2Proof.Machine

open Sys2Proof.Claims

/-! #### Reads -/

/-- From `p` to `q` the port registers change as by reads at addresses in `A`: `w` only by one of `$2002`, `v` only by one of
`$2007`, `t` and `fx` not at all (49_ppu_vt.md R292, R298). -/
structure ReadsWithin (A : Word → Prop) (p q : Ppu) : Prop where
  t : q.t = p.t
  fx : q.fx = p.fx
  w : q.w ≠ p.w → ∃ a, A a ∧ regionOf a = .port .ppustatus
  v : q.v ≠ p.v → ∃ a, A a ∧ regionOf a = .port .ppudata

theorem ReadsWithin.refl (A : Word → Prop) (p : Ppu) : ReadsWithin A p p :=
  ⟨rfl, rfl, fun h => absurd rfl h, fun h => absurd rfl h⟩

/-- One more read. -/
theorem ReadsWithin.memRead {A : Word → Prop} {p : Ppu} {u : State} (h : ReadsWithin A p u.ppu) {a : Word} (ha : A a) :
    ReadsWithin A p (memRead a u).2.ppu where
  t := (memRead_t a u).trans h.t
  fx := (memRead_fx a u).trans h.fx
  w hw := by
    by_cases hr : regionOf a = .port .ppustatus
    · exact ⟨a, ha, hr⟩
    · exact h.w (by rwa [memRead_w hr] at hw)
  v hv := by
    by_cases hr : regionOf a = .port .ppudata
    · exact ⟨a, ha, hr⟩
    · exact h.v (by rwa [memRead_v hr] at hv)

theorem ReadsWithin.w_eq {A : Word → Prop} {p q : Ppu} (h : ReadsWithin A p q)
    (hA : ∀ a, A a → regionOf a ≠ .port .ppustatus) : q.w = p.w := by
  by_contra hw
  obtain ⟨a, ha, hr⟩ := h.w hw
  exact hA a ha hr

/-- The addresses of the opcode byte and of the operand bytes its format has (30_encoding.md R84). -/
def FetchAddr (s : State) (a : Word) : Prop :=
  ∃ k, k ≤ (entryOf (memRead s.pc s).1).fmt.nb ∧ a = s.pc + BitVec.ofNat 16 k

theorem fetchesFromPort_of_fetchAddr {s : State} {p : Port} (h : ∃ a, FetchAddr s a ∧ regionOf a = .port p) :
    FetchesFromPort s p := by
  obtain ⟨_, ⟨k, hk, rfl⟩, hr⟩ := h
  exact ⟨k, hk, hr⟩

theorem fetch_readsWithin (s : State) : ReadsWithin (FetchAddr s) s.ppu (fetch s).2.ppu := by
  have hpc : s.pc = s.pc + BitVec.ofNat 16 0 := (BitVec.add_zero s.pc).symm
  unfold fetch FetchAddr
  dsimp only
  cases (entryOf (memRead s.pc s).1).fmt with
  | f1 => exact (ReadsWithin.refl _ _).memRead ⟨0, by decide, hpc⟩
  | f2 => exact ((ReadsWithin.refl _ _).memRead ⟨0, by decide, hpc⟩).memRead ⟨1, by decide, rfl⟩
  | f3 =>
    exact (((ReadsWithin.refl _ _).memRead ⟨0, by decide, hpc⟩).memRead ⟨1, by decide, rfl⟩).memRead ⟨2, by decide, rfl⟩

/-! #### The port engine -/

/-- `w` flips on every write of `$2005` and `$2006` (49_ppu_vt.md R297). -/
theorem portWrite_w (p : Port) (d : Byte) (s : State) :
    (portWrite p d s).ppu.w = (s.ppu.w ^^ (p == .ppuscroll || p == .ppuaddr)) := by
  cases p with
  | ppuscroll => cases hw : s.ppu.w <;> simp [portWrite, hw, writeScrollFirst, writeScrollSecond]
  | ppuaddr => cases hw : s.ppu.w <;> simp [portWrite, hw, writeAddrFirst, writeAddrSecond]
  | _ => exact (Bool.xor_false _).symm

/-- A read of `$2002` clears `w` (49_ppu_vt.md R292). -/
theorem portRead_w (p : Port) (s : State) : (portRead p s).2.ppu.w = (s.ppu.w && p != .ppustatus) := by
  cases p with
  | ppustatus => exact (Bool.and_false _).symm
  | _ => exact (Bool.and_true _).symm

/-- Every port has an address, so the laws of a CPU access are laws of the port engine (20_memory.md R56). -/
theorem exists_regionOf_eq_port (p : Port) : ∃ a, regionOf a = .port p := by
  cases p with
  | ppuctrl => exact ⟨0x2000, rfl⟩
  | ppumask => exact ⟨0x2001, rfl⟩
  | ppustatus => exact ⟨0x2002, rfl⟩
  | oamaddr => exact ⟨0x2003, rfl⟩
  | oamdata => exact ⟨0x2004, rfl⟩
  | ppuscroll => exact ⟨0x2005, rfl⟩
  | ppuaddr => exact ⟨0x2006, rfl⟩
  | ppudata => exact ⟨0x2007, rfl⟩

theorem portWrite_t_ne {p : Port} {d : Byte} {s : State} (h : (portWrite p d s).ppu.t ≠ s.ppu.t) :
    p = .ppuscroll ∨ p = .ppuaddr ∨ (p = .ppuctrl ∧ s.cfg.ppuctrlWritesTNt = true) := by
  obtain ⟨a, ha⟩ := exists_regionOf_eq_port p
  by_contra hp
  simp only [not_or] at hp
  obtain ⟨h5, h6, h0⟩ := hp
  rw [← memWrite_port ha] at h
  refine h (memWrite_t ?_ ?_ (fun hr => ?_) d)
  · simpa [ha] using h5
  · simpa [ha] using h6
  · simpa [show p = .ppuctrl by simpa [ha] using hr] using h0

theorem portWrite_v_ne {p : Port} {d : Byte} {s : State} (h : (portWrite p d s).ppu.v ≠ s.ppu.v) :
    (p = .ppuaddr ∧ s.ppu.w = true ∧ (portWrite p d s).ppu.v = (portWrite p d s).ppu.t) ∨ p = .ppudata := by
  obtain ⟨a, ha⟩ := exists_regionOf_eq_port p
  by_cases h7 : p = .ppudata
  · exact .inr h7
  · rw [← memWrite_port ha] at h ⊢
    obtain ⟨hr, hw, hvt⟩ := memWrite_v (by simpa [ha] using h7) h
    exact .inl ⟨by simpa [ha] using hr, hw, hvt⟩

theorem portWrite_fx_ne {p : Port} {d : Byte} {s : State} (h : (portWrite p d s).ppu.fx ≠ s.ppu.fx) :
    p = .ppuscroll ∧ s.ppu.w = false := by
  obtain ⟨a, ha⟩ := exists_regionOf_eq_port p
  by_contra hp
  rw [← memWrite_port ha] at h
  exact h (memWrite_fx (by simpa [ha] using hp) d)

theorem portRead_v_ne {p : Port} {s : State} (h : (portRead p s).2.ppu.v ≠ s.ppu.v) : p = .ppudata := by
  obtain ⟨a, ha⟩ := exists_regionOf_eq_port p
  by_contra hp
  rw [← memRead_port ha] at h
  exact h (memRead_v (by simpa [ha] using hp) s)

theorem portRead_t (p : Port) (s : State) : (portRead p s).2.ppu.t = s.ppu.t := by
  obtain ⟨a, ha⟩ := exists_regionOf_eq_port p
  rw [← memRead_port ha, memRead_t]

theorem portRead_fx (p : Port) (s : State) : (portRead p s).2.ppu.fx = s.ppu.fx := by
  obtain ⟨a, ha⟩ := exists_regionOf_eq_port p
  rw [← memRead_port ha, memRead_fx]

/-! #### The operations -/

/-- The port registers become `q` only as the rules list it for the operation `i` run in `s` (49_ppu_vt.md R297, R300, R304). -/
def PortsAsListed (i : Instr) (s : State) (q : Ppu) : Prop :=
  (q.w ≠ s.ppu.w →
    (∃ d, i ∈ [Instr.ppuscrollWriteFirst d, .ppuscrollWriteSecond d, .ppuaddrWriteFirst d, .ppuaddrWriteSecond d]) ∨
    i = .ppustatusRead ∨ StoresToPort i s .ppuscroll ∨ StoresToPort i s .ppuaddr ∨ ReadsPort i s .ppustatus) ∧
  (q.t ≠ s.ppu.t →
    (∃ d, i ∈ [Instr.ppuscrollWriteFirst d, .ppuscrollWriteSecond d, .ppuaddrWriteFirst d, .ppuaddrWriteSecond d]) ∨
    StoresToPort i s .ppuscroll ∨ StoresToPort i s .ppuaddr ∨
    (((∃ d, i = .ppuctrlWrite d) ∨ StoresToPort i s .ppuctrl) ∧ s.cfg.ppuctrlWritesTNt = true)) ∧
  (q.v ≠ s.ppu.v →
    (((∃ d, i = .ppuaddrWriteSecond d) ∨ (StoresToPort i s .ppuaddr ∧ s.ppu.w = true)) ∧ q.v = q.t) ∨
    i = .fineYIncrement ∨ i = .ppudataRead ∨ (∃ d, i = .ppudataWrite d) ∨ ReadsPort i s .ppudata ∨
    StoresToPort i s .ppudata) ∧
  (q.fx ≠ s.ppu.fx → (∃ d, i = .ppuscrollWriteFirst d) ∨ (StoresToPort i s .ppuscroll ∧ s.ppu.w = false))

theorem portsAsListed_of_eq {i : Instr} {s : State} {q : Ppu} (h : q = s.ppu) : PortsAsListed i s q := by
  subst h
  exact ⟨(absurd rfl ·), (absurd rfl ·), (absurd rfl ·), (absurd rfl ·)⟩

/-- An operation that only reads, at addresses that count for `ReadsPort`. -/
theorem portsAsListed_of_reads {i : Instr} {s : State} {q : Ppu} {A : Word → Prop} (h : ReadsWithin A s.ppu q)
    (hA : ∀ a p, A a → regionOf a = .port p → ReadsPort i s p) : PortsAsListed i s q := by
  refine ⟨fun hw => ?_, (absurd h.t ·), fun hv => ?_, (absurd h.fx ·)⟩
  · obtain ⟨a, ha, hr⟩ := h.w hw
    exact .inr (.inr (.inr (.inr (hA a _ ha hr))))
  · obtain ⟨a, ha, hr⟩ := h.v hv
    exact .inr (.inr (.inr (.inr (.inl (hA a _ ha hr)))))

/-- The only address that an instruction with the memory operand `m` reads by it (40_addressing.md R126). -/
def OperandAddr (i : Instr) (m : MemMode) (s : State) (a : Word) : Prop :=
  readOperand i = some m ∧ a = (resolve m s).ea

theorem readsPort_of_operandAddr {i : Instr} {m : MemMode} {s : State} {a : Word} {p : Port} (ha : OperandAddr i m s a)
    (hr : regionOf a = .port p) : ReadsPort i s p := by
  obtain ⟨hi, rfl⟩ := ha
  exact .inl ⟨m, hi, hr⟩

theorem readsWithin_operand {i : Instr} {m : MemMode} (hi : readOperand i = some m) (s : State) :
    ReadsWithin (OperandAddr i m s) s.ppu (memRead (resolve m s).ea s).2.ppu :=
  (ReadsWithin.refl _ _).memRead ⟨hi, rfl⟩

theorem portsAsListed_readSource_memory {i : Instr} {m : MemMode} (hi : readOperand i = some m) (s : State) :
    PortsAsListed i s (readSource (.memory m) s).st.ppu := by
  rw [readSource, resolve_st]
  exact portsAsListed_of_reads (readsWithin_operand hi s) fun _ _ => readsPort_of_operandAddr

/-- An instruction whose operand is only read. -/
theorem portsAsListed_readSource {mk : Source → Instr} (hmk : ∀ m, readOperand (mk (.memory m)) = some m) (o : Source)
    (s : State) : PortsAsListed (mk o) s (readSource o s).st.ppu := by
  cases o with
  | immediate b => exact portsAsListed_of_eq rfl
  | memory m => exact portsAsListed_readSource_memory (hmk m) s

/-- One write of the operand of a store, after it was read or not. -/
theorem portsAsListed_memWrite {i : Instr} {m : MemMode} {s u : State} (hi : i ∈ storeForms m)
    (hu : ReadsWithin (OperandAddr i m s) s.ppu u.ppu) (hcfg : u.cfg = s.cfg) (v : Byte) :
    PortsAsListed i s (memWrite (resolve m s).ea v u).ppu := by
  have hst : ∀ {p}, regionOf (resolve m s).ea = .port p → StoresToPort i s p := fun hr => ⟨m, hi, hr⟩
  have hw_eq : ∀ {p}, p ≠ .ppustatus → regionOf (resolve m s).ea = .port p → u.ppu.w = s.ppu.w := by
    rintro p hp hr
    refine hu.w_eq ?_
    rintro a ⟨-, rfl⟩ ha
    rw [hr, Region.port.injEq] at ha
    exact hp ha
  refine ⟨fun hw => ?_, fun ht => ?_, fun hv => ?_, fun hfx => ?_⟩
  · by_cases h5 : regionOf (resolve m s).ea = .port .ppuscroll
    · exact .inr (.inr (.inl (hst h5)))
    · by_cases h6 : regionOf (resolve m s).ea = .port .ppuaddr
      · exact .inr (.inr (.inr (.inl (hst h6))))
      · rw [memWrite_w h5 h6] at hw
        obtain ⟨a, ha, hr⟩ := hu.w hw
        exact .inr (.inr (.inr (.inr (readsPort_of_operandAddr ha hr))))
  · by_contra hn
    simp only [not_or] at hn
    obtain ⟨-, h5, h6, h0⟩ := hn
    refine ht ((memWrite_t (mt hst h5) (mt hst h6) (fun hr => ?_) v).trans hu.t)
    rw [hcfg]
    exact Bool.eq_false_iff.mpr fun hc => h0 ⟨.inr (hst hr), hc⟩
  · by_cases h7 : regionOf (resolve m s).ea = .port .ppudata
    · exact .inr (.inr (.inr (.inr (.inr (hst h7)))))
    · by_cases hwr : (memWrite (resolve m s).ea v u).ppu.v = u.ppu.v
      · rw [hwr] at hv
        obtain ⟨a, ha, hr⟩ := hu.v hv
        exact .inr (.inr (.inr (.inr (.inl (readsPort_of_operandAddr ha hr)))))
      · obtain ⟨h6, huw, hvt⟩ := memWrite_v h7 hwr
        exact .inl ⟨.inr ⟨hst h6, (hw_eq (by decide) h6).symm.trans huw⟩, hvt⟩
  · by_cases hc : regionOf (resolve m s).ea = .port .ppuscroll ∧ u.ppu.w = false
    · obtain ⟨h5, huw⟩ := hc
      exact .inr ⟨hst h5, (hw_eq (by decide) h5).symm.trans huw⟩
    · exact absurd ((memWrite_fx hc v).trans hu.fx) hfx

theorem portsAsListed_store {i : Instr} {m : MemMode} (hi : i ∈ storeForms m) (v : Byte) (j : Instr) (s : State) :
    PortsAsListed i s (store v m j s).ppu := by
  rw [store_eq]
  exact portsAsListed_memWrite hi (ReadsWithin.refl _ _) rfl v

theorem portsAsListed_modifyMem {i : Instr} {m : MemMode} (hi : i ∈ storeForms m) (hr : readOperand i = some m)
    (op : AluOp) (j : Instr) (s : State) : PortsAsListed i s (modifyMem op m j s).ppu := by
  rw [modifyMem_eq]
  exact portsAsListed_memWrite hi (readsWithin_operand hr s) (memRead_portsOnly _ s).cfg _

/-- A shift or rotate reaches the ports by a memory operand only. -/
theorem portsAsListed_modify {mk : Place → Instr} (hst : ∀ m, mk (.memory m) ∈ storeForms m)
    (hr : ∀ m, readOperand (mk (.memory m)) = some m) (op : AluOp) (o : Place) (j : Instr) (s : State) :
    PortsAsListed (mk o) s (modify op o j s).ppu := by
  cases o with
  | accumulator => exact portsAsListed_of_eq rfl
  | memory m => exact portsAsListed_modifyMem (hst m) (hr m) op j s

/-- A jump reaches the ports by the two bytes of its pointer only (40_addressing.md R120). -/
theorem portsAsListed_resolveTarget (t : Target) (s : State) : PortsAsListed (.jmp t) s (resolveTarget t s).2.ppu := by
  cases t with
  | absolute w => exact portsAsListed_of_eq rfl
  | indirect ptr =>
    have h : ReadsWithin (fun a => a = ptr ∨ a = word (hi ptr) (lo ptr + 1)) s.ppu (resolveTarget (.indirect ptr) s).2.ppu := by
      rw [resolveTarget, pointerHigh_word]
      exact ((ReadsWithin.refl _ _).memRead (.inl rfl)).memRead (.inr rfl)
    refine portsAsListed_of_reads h ?_
    rintro a p (rfl | rfl) hr
    · exact .inr ⟨_, rfl, .inl hr⟩
    · exact .inr ⟨_, rfl, .inr hr⟩

/-! #### The port rows -/

theorem writeCtrl_t_ne {d : Byte} {s : State} (h : (writeCtrl d s).ppu.t ≠ s.ppu.t) : s.cfg.ppuctrlWritesTNt = true := by
  obtain h5 | h6 | ⟨-, hc⟩ := portWrite_t_ne (p := .ppuctrl) h
  · cases h5
  · cases h6
  · exact hc

theorem portsAsListed_writeCtrl (d : Byte) (s : State) : PortsAsListed (.ppuctrlWrite d) s (writeCtrl d s).ppu :=
  ⟨(absurd rfl ·), fun ht => .inr (.inr (.inr ⟨.inl ⟨d, rfl⟩, writeCtrl_t_ne ht⟩)), (absurd rfl ·), (absurd rfl ·)⟩

theorem portsAsListed_readStatus (s : State) : PortsAsListed .ppustatusRead s (readStatus s).2.ppu :=
  ⟨fun _ => .inr (.inl rfl), (absurd rfl ·), (absurd rfl ·), (absurd rfl ·)⟩

theorem portsAsListed_writeScrollFirst (d : Byte) (s : State) :
    PortsAsListed (.ppuscrollWriteFirst d) s (writeScrollFirst d s).ppu :=
  ⟨fun _ => .inl ⟨d, by simp⟩, fun _ => .inl ⟨d, by simp⟩, (absurd rfl ·), fun _ => .inl ⟨d, rfl⟩⟩

theorem portsAsListed_writeScrollSecond (d : Byte) (s : State) :
    PortsAsListed (.ppuscrollWriteSecond d) s (writeScrollSecond d s).ppu :=
  ⟨fun _ => .inl ⟨d, by simp⟩, fun _ => .inl ⟨d, by simp⟩, (absurd rfl ·), (absurd rfl ·)⟩

theorem portsAsListed_writeAddrFirst (d : Byte) (s : State) :
    PortsAsListed (.ppuaddrWriteFirst d) s (writeAddrFirst d s).ppu :=
  ⟨fun _ => .inl ⟨d, by simp⟩, fun _ => .inl ⟨d, by simp⟩, (absurd rfl ·), (absurd rfl ·)⟩

theorem portsAsListed_writeAddrSecond (d : Byte) (s : State) :
    PortsAsListed (.ppuaddrWriteSecond d) s (writeAddrSecond d s).ppu :=
  ⟨fun _ => .inl ⟨d, by simp⟩, fun _ => .inl ⟨d, by simp⟩, fun _ => .inl ⟨.inl ⟨d, rfl⟩, rfl⟩, (absurd rfl ·)⟩

/-- The rows that change `v` only. -/
theorem portsAsListed_setV {i : Instr} (hi : i = .fineYIncrement ∨ i = .ppudataRead ∨ ∃ d, i = .ppudataWrite d) (s : State)
    (v : BitVec 15) : PortsAsListed i s { s.ppu with v := v } :=
  ⟨(absurd rfl ·), (absurd rfl ·), fun _ => .inr (hi.imp_right (·.imp_right .inl)), (absurd rfl ·)⟩

/-! #### Every operation -/

theorem push_ppu (v : Byte) (s : State) : (push v s).ppu = s.ppu := by rw [push_eq]; rfl

theorem pull_ppu (s : State) : (pull s).2.ppu = s.ppu := by rw [pull_snd]; rfl

theorem returnFromInterrupt_ppu (s : State) : (returnFromInterrupt s).ppu = s.ppu := by rw [returnFromInterrupt_eq]

theorem takeInterrupt_ppu (k : IntType) (s : State) : (takeInterrupt k s).ppu = s.ppu := by
  obtain ⟨_, _, _, _, _, h⟩ := takeInterrupt_eq_update k s
  rw [h]

theorem exec_portsAsListed (i : Instr) (s : State) : ∃ t, exec i s = .next t ∧ PortsAsListed i s t.ppu := by
  cases i with
  | ora o | and o | eor o | adc o | sbc o | cmp o | cpx o | cpy o | lda o | ldx o | ldy o =>
    exact ⟨_, rfl, portsAsListed_readSource (fun _ => rfl) o s⟩
  | bit m => exact ⟨_, rfl, portsAsListed_readSource_memory rfl s⟩
  | sta m | stx m | sty m => exact ⟨_, rfl, portsAsListed_store (by simp [storeForms]) _ _ s⟩
  | inc m | dec m => exact ⟨_, rfl, portsAsListed_modifyMem (by simp [storeForms]) rfl _ _ s⟩
  | asl o | lsr o | rol o | ror o =>
    exact ⟨_, rfl, portsAsListed_modify (fun _ => by simp [storeForms]) (fun _ => rfl) _ o _ s⟩
  | bcc b | bcs b | beq b | bmi b | bne b | bpl b | bvc b | bvs b =>
    exact ⟨_, rfl, portsAsListed_of_eq (by rw [branch_eq])⟩
  | pha | php => exact ⟨_, rfl, portsAsListed_of_eq (push_ppu _ s)⟩
  | pla | plp => exact ⟨_, rfl, portsAsListed_of_eq (pull_ppu s)⟩
  | jmp t => exact ⟨_, rfl, portsAsListed_resolveTarget t s⟩
  | jsr w => exact ⟨_, rfl, portsAsListed_of_eq ((push_ppu _ _).trans (push_ppu _ s))⟩
  | rts => exact ⟨_, rfl, portsAsListed_of_eq ((pull_ppu _).trans (pull_ppu s))⟩
  | rti => exact ⟨_, rfl, portsAsListed_of_eq (returnFromInterrupt_ppu s)⟩
  | brk | interruptBrk | interruptIrq | interruptReset | interruptNmi =>
    exact ⟨_, rfl, portsAsListed_of_eq (takeInterrupt_ppu _ _)⟩
  | ppuctrlWrite d => exact ⟨_, rfl, portsAsListed_writeCtrl d s⟩
  | ppustatusRead => exact ⟨_, rfl, portsAsListed_readStatus s⟩
  | ppuscrollWriteFirst d => exact ⟨_, rfl, portsAsListed_writeScrollFirst d s⟩
  | ppuscrollWriteSecond d => exact ⟨_, rfl, portsAsListed_writeScrollSecond d s⟩
  | ppuaddrWriteFirst d => exact ⟨_, rfl, portsAsListed_writeAddrFirst d s⟩
  | ppuaddrWriteSecond d => exact ⟨_, rfl, portsAsListed_writeAddrSecond d s⟩
  | ppudataRead => exact ⟨_, rfl, portsAsListed_setV (.inr (.inl rfl)) s _⟩
  | ppudataWrite d => exact ⟨_, rfl, portsAsListed_setV (.inr (.inr ⟨d, rfl⟩)) s _⟩
  | fineYIncrement => exact ⟨_, rfl, portsAsListed_setV (.inl rfl) s _⟩
  | _ => exact ⟨_, rfl, portsAsListed_of_eq rfl⟩

/-! #### The calls without a row -/

/-- A read that has no row gives a free byte (49_ppu_vt.md R302, R303). -/
theorem portRead_of_noRow {off : BitVec 13} {w : Bool} (h : decodeCall (.portRead off) w = none) (s : State) :
    portRead (portOf off.toNat) s = drawByte s := by
  have hr : off.toNat % 8 < 8 := Nat.mod_lt _ (by decide)
  simp only [decodeCall] at h
  unfold portOf
  generalize off.toNat % 8 = r at h hr ⊢
  match r, h, hr with
  | 2, h, _ | 7, h, _ => cases h
  | 0, _, _ | 1, _, _ | 3, _, _ | 4, _, _ | 5, _, _ | 6, _, _ => rfl

/-- A write that has no row changes nothing in the block (49_ppu_vt.md R302, R303). -/
theorem portWrite_of_noRow {off : BitVec 13} {d : Byte} {w : Bool} (h : decodeCall (.portWrite off d) w = none) (s : State) :
    portWrite (portOf off.toNat) d s = s := by
  have hr : off.toNat % 8 < 8 := Nat.mod_lt _ (by decide)
  simp only [decodeCall] at h
  unfold portOf
  generalize off.toNat % 8 = r at h hr ⊢
  match r, h, hr with
  | 0, h, _ | 5, h, _ | 6, h, _ | 7, h, _ => cases h
  | 1, _, _ | 2, _, _ | 3, _, _ | 4, _, _ => rfl

/-- Of the calls without a row, only `powerResetState` changes more of the port registers than `ppustatus`. -/
theorem callNoRow_ppu {c : Turn} {s : State} (h : decodeCall c s.ppu.w = none) :
    (callNoRow c s).ppu = { s.ppu with ppustatus := (callNoRow c s).ppu.ppustatus } ∨ ∃ r, c = .powerResetState r := by
  cases c with
  | portRead off => exact .inl (by rw [callNoRow, portRead_of_noRow h]; rfl)
  | portWrite off d => exact .inl (by rw [callNoRow, portWrite_of_noRow h])
  | powerResetState r => exact .inr ⟨r, rfl⟩
  | _ => exact .inl rfl

theorem callNoRow_changes {c : Turn} {s : State} (hc : decodeCall c s.ppu.w = none) :
    (((callNoRow c s).ppu.w ≠ s.ppu.w ∨ (callNoRow c s).ppu.t ≠ s.ppu.t ∨ (callNoRow c s).ppu.fx ≠ s.ppu.fx) →
      ∃ isReset, c = .powerResetState isReset) ∧
    ((callNoRow c s).ppu.v ≠ s.ppu.v → c = .powerResetState false) := by
  obtain h | ⟨r, rfl⟩ := callNoRow_ppu hc
  · have hw := congrArg Ppu.w h
    have ht := congrArg Ppu.t h
    have hfx := congrArg Ppu.fx h
    exact ⟨fun hne => by simp [hw, ht, hfx] at hne, (absurd (congrArg Ppu.v h) ·)⟩
  · cases r with
    | true => exact ⟨fun _ => ⟨true, rfl⟩, (absurd rfl ·)⟩
    | false => exact ⟨fun _ => ⟨false, rfl⟩, fun _ => rfl⟩

/-- Settles O53: the engine port by port, the fetch by its reads, every operation by `exec_portsAsListed`, every call without a row
by `callNoRow_changes`. -/
theorem toggleAndScrollRegistersChangeOnlyAsListed : Obligations.ToggleAndScrollRegistersChangeOnlyAsListed := by
  refine ⟨fun p d s => ⟨portWrite_w p d s, portRead_w p s, portWrite_t_ne, portRead_t p s, portWrite_v_ne, portRead_v_ne,
    portWrite_fx_ne, portRead_fx p s⟩, fun s => ?_, fun i s t ht => ?_, fun c s hc => callNoRow_changes hc⟩
  · obtain ⟨ht, hfx, hw, hv⟩ := fetch_readsWithin s
    exact ⟨ht, hfx, fun h => fetchesFromPort_of_fetchAddr (hw h), fun h => fetchesFromPort_of_fetchAddr (hv h)⟩
  · exact of_exec_next (P := fun u => PortsAsListed i s u.ppu) (exec_portsAsListed i s) ht

end Sys2Proof.Machine

/-! ### The invariant and the memories (20_memory.md) -/

namespace Sys2Proof.Machine

open Sys2Proof.Claims

/-! #### Operations that store nothing -/

/-- From `s` to `t`, neither memory changes. -/
def SameMemory (s t : State) : Prop := t.cpuMem = s.cpuMem ∧ t.ppuMem = s.ppuMem

theorem PortsOnly.sameMemory {s t : State} (h : PortsOnly s t) : SameMemory s t := ⟨h.cpuMem, h.ppuMem⟩

/-- An operation that stores nothing reaches the memories by reads only (20_memory.md R59). -/
theorem exec_sameMemory {i : Instr} (hi : stores i = false) (s : State) : ∃ t, exec i s = .next t ∧ SameMemory s t := by
  cases i with
  | ora o | and o | eor o | adc o | sbc o | cmp o | cpx o | cpy o | lda o | ldx o | ldy o =>
    exact ⟨_, rfl, (readSource_portsOnly o s).sameMemory⟩
  | bit m => exact ⟨_, rfl, (readSource_portsOnly (.memory m) s).sameMemory⟩
  | asl o | lsr o | rol o | ror o =>
    cases o with
    | accumulator => exact ⟨_, rfl, rfl, rfl⟩
    | memory m => cases hi
  | sta m | stx m | sty m | inc m | dec m => cases hi
  | bcc b | bcs b | beq b | bmi b | bne b | bpl b | bvc b | bvs b => exact ⟨_, rfl, by rw [branch_eq]; exact ⟨rfl, rfl⟩⟩
  | pha | php => cases hi
  | pla | plp => exact ⟨_, rfl, by rw [pull_eq]; exact ⟨rfl, rfl⟩⟩
  | jmp t => exact ⟨_, rfl, (resolveTarget_portsOnly t s).sameMemory⟩
  | jsr w => cases hi
  | rts => exact ⟨_, rfl, by rw [rts_eq]; exact ⟨rfl, rfl⟩⟩
  | rti => exact ⟨_, rfl, by rw [returnFromInterrupt_eq]; exact ⟨rfl, rfl⟩⟩
  | brk | interruptBrk | interruptIrq | interruptReset | interruptNmi => cases hi
  | ppudataWrite d => cases hi
  | _ => exact ⟨_, rfl, rfl, rfl⟩

/-- Settles O60: the memories stay by `exec_sameMemory`, and a byte of storage is read off CPU memory. -/
theorem otherInstructionsStoreNothing : Obligations.OtherInstructionsStoreNothing := by
  intro i s t hi ht
  obtain ⟨hcpu, hppu⟩ := of_exec_next (exec_sameMemory hi s) ht
  exact ⟨peek_congr hcpu, hcpu, hppu⟩

/-! #### The invariant -/

/-- The invariant speaks of the memories and the configuration only. -/
theorem SameMemory.wf {s t : State} (h : SameMemory s t) (hcfg : t.cfg = s.cfg) (hs : s.wf = true) : t.wf = true := by
  obtain ⟨hcpu, hppu⟩ := h
  rwa [State.wf, hcpu, hppu, hcfg]

/-- An operation that stores does it by memory writes and pushes, or through `$2007`. -/
theorem exec_wf_of_stores {i : Instr} (hi : stores i = true) {s : State} (hs : s.wf = true) :
    ∃ t, exec i s = .next t ∧ t.wf = true := by
  cases i with
  | sta m | stx m | sty m => exact ⟨_, rfl, wf_store hs _ m _⟩
  | inc m | dec m => exact ⟨_, rfl, wf_modifyMem hs _ m _⟩
  | asl o | lsr o | rol o | ror o => exact ⟨_, rfl, wf_modify hs _ o _⟩
  | pha | php => exact ⟨_, rfl, wf_push hs _⟩
  | jsr w => exact ⟨_, rfl, wf_push (wf_push hs _) _⟩
  | brk => exact ⟨_, rfl, wf_takeInterrupt (s := s.setPc (s.pc + 1)) hs .brk⟩
  | interruptBrk | interruptIrq | interruptReset | interruptNmi => exact ⟨_, rfl, wf_takeInterrupt hs _⟩
  | ppudataWrite d => exact ⟨_, rfl, wf_ppuWrite hs (vramAddr s.ppu) d⟩
  | _ => cases hi

theorem wf_of_exec {i : Instr} {s t : State} (hs : s.wf = true) (ht : exec i s = .next t) : t.wf = true := by
  cases hi : stores i with
  | true => exact of_exec_next (exec_wf_of_stores hi hs) ht
  | false => exact (of_exec_next (exec_sameMemory hi s) ht).wf (listedOnly_of_exec ht).cfg hs

theorem wf_fetch {s : State} (hs : s.wf = true) : (fetch s).2.wf = true := (fetch_portsOnly s).wf.trans hs

theorem wf_callNoRow {s : State} (hs : s.wf = true) (c : Turn) : (callNoRow c s).wf = true := by
  cases c with
  | portRead off => exact (portRead_portsOnly _ s).wf.trans hs
  | portWrite off d => exact wf_portWrite hs _ d
  | powerResetState isReset => cases isReset <;> exact hs
  | _ => exact hs

/-- What a step can do, with its turn taken off: run the instruction fetched, run the row of a call, or make a call without a
row. -/
theorem step_cases {s t : State} (h : step s = .next t) : ∃ ts,
    exec (fetch (s.setTurns ts)).1 (fetch (s.setTurns ts)).2 = .next t ∨
    (∃ i, exec i (s.setTurns ts) = .next t) ∨
    ∃ c, t = callNoRow c (s.setTurns ts) := by
  cases hs : s.turns with
  | nil =>
    rw [step, hs] at h
    exact ⟨s.turns, .inl h⟩
  | cons c ts =>
    refine ⟨ts, ?_⟩
    by_cases hc : c = .cpu
    · subst hc
      rw [step, hs] at h
      exact .inl h
    · rw [step_of_call hs hc] at h
      cases hd : decodeCall c (s.setTurns ts).ppu.w with
      | some i => exact .inr (.inl ⟨i, (runCall_of_row hd).symm.trans h⟩)
      | none =>
        rw [runCall_of_noRow hd] at h
        cases h
        exact .inr (.inr ⟨c, rfl⟩)

/-- Settles O9: taking a turn off leaves the invariant, and so does each thing that a step can then do. -/
theorem stepKeepsTheInvariant : Obligations.StepKeepsTheInvariant := by
  intro s t hs ht
  obtain ⟨ts, hcpu | ⟨i, hrow⟩ | ⟨c, rfl⟩⟩ := step_cases ht
  · exact wf_of_exec (wf_fetch (s := s.setTurns ts) hs) hcpu
  · exact wf_of_exec (s := s.setTurns ts) hs hrow
  · exact wf_callNoRow (s := s.setTurns ts) hs c

/-- Settles O10: the invariant names nothing of a power-on state but the memories and the map it is given. -/
theorem resetMeetsTheInvariant : Obligations.ResetMeetsTheInvariant := by
  refine ⟨rfl, fun init cpuMem ppuMem cfg => ?_⟩
  simp only [wf_iff, cfgWf, List.all_eq_true, decide_eq_true_eq, State.powerOn_cpuMem, State.powerOn_ppuMem,
    State.powerOn_cfg]

/-! #### The CPU address map -/

/-- The RAM mirrors (20_memory.md R55). -/
theorem regionOf_ram {a : Word} (h : a.toNat < 0x2000) : regionOf a = .cell (a.toNat % 0x800) := by
  rw [regionOf, if_pos h]

/-- The port mirrors (20_memory.md R56). -/
theorem regionOf_ports {a : Word} (hlo : 0x2000 ≤ a.toNat) (hhi : a.toNat < 0x4000) :
    regionOf a = .port (portOf a.toNat) := by
  rw [regionOf, if_neg (Nat.not_lt.mpr hlo), if_pos hhi]

theorem portOf_mod (n : Nat) : portOf (n % 8) = portOf n := by
  simp only [portOf, Nat.mod_mod]

/-- Where an address leads is all that an access takes from it. -/
theorem memRead_congr {p q : Word} (h : regionOf p = regionOf q) (s : State) : memRead p s = memRead q s := by
  rw [memRead, memRead, h]

theorem memWrite_congr {p q : Word} (h : regionOf p = regionOf q) (v : Byte) (s : State) :
    memWrite p v s = memWrite q v s := by
  rw [memWrite, memWrite, h]

/-- Settles O21: a mask of low bits is a remainder, so the ranges are `regionOf_ram` and `regionOf_ports`. -/
theorem cpuMirrors : Obligations.CpuMirrors := by
  refine ⟨fun a ha => ?_, fun a hlo hhi => ?_, fun p q h v s => ⟨memRead_congr h s, memWrite_congr h v s⟩,
    fun a p h v s => ⟨memRead_port h s, memWrite_port h v s⟩⟩
  · rw [Nat.and_two_pow_sub_one_eq_mod a.toNat 11]
    exact regionOf_ram ha
  · rw [Nat.and_two_pow_sub_one_eq_mod a.toNat 3]
    exact (regionOf_ports hlo (Nat.lt_succ_of_le hhi)).trans (congrArg _ (portOf_mod _).symm)

/-! #### Reads and writes of the two memories -/

/-- A read after a write of a memory in canonical form (20_memory.md R61). -/
theorem Memory.get_set {m : Memory} (hm : m.wf = true) (a b : Nat) (v : Byte) :
    (m.set a v).get b = if b = a then v else m.get b := by
  by_cases h : b = a
  · subst h
    rw [if_pos rfl, get_set_same hm]
  · rw [if_neg h, get_set_other m v h]

/-- Settles O22: a write of storage sets one location of CPU memory, and a read of storage gets one. -/
theorem storageReadAfterWrite : Obligations.StorageReadAfterWrite := by
  intro s p q j k v hs hp hq
  obtain ⟨hcpu, -⟩ := (wf_iff s).mp hs
  rw [memWrite_cell hp, memRead_cell hq, memRead_cell hq]
  exact ⟨congrArg (·, _) (Memory.get_set hcpu j k v), rfl⟩

/-- A read that is not one of `$2002` or `$2007` moves no port register (20_memory.md R59; 49_ppu_vt.md R302, R303). -/
theorem memRead_ppu {a : Word} (h2 : regionOf a ≠ .port .ppustatus) (h7 : regionOf a ≠ .port .ppudata) (s : State) :
    (memRead a s).2.ppu = s.ppu := by
  cases hr : regionOf a with
  | cell k => rw [memRead_cell hr]
  | oamDma => rw [memRead, hr]; rfl
  | port p =>
    rw [memRead_port hr]
    cases p with
    | ppustatus => exact absurd hr h2
    | ppudata => exact absurd hr h7
    | _ => rfl

/-- Settles O23: a read of a port is the engine's, and clearing bit 7 is a remainder by 128. -/
theorem readsChangePortsOnly : Obligations.ReadsChangePortsOnly := by
  refine fun s a => ⟨memRead_portsOnly a s, fun h => ?_, fun h => ?_, fun h2 h7 => memRead_ppu h2 h7 s, fun k h => ?_⟩
  · rw [memRead_port h, ← byte_and_low7]
    exact ⟨rfl, rfl⟩
  · rw [memRead_port h]
    rfl
  · rw [memRead_cell h]

/-- The palette repeats every 0x20 from 0x3F00 (20_memory.md R58). -/
theorem ppuBacking_palette (cfg : Params) {a : Word} (h : 0x3F00 ≤ a.toNat % 0x4000) :
    ppuBacking cfg a = 0x3F00 + a.toNat % 0x20 := by
  rw [ppuBacking, if_pos h, Nat.mod_mod_of_dvd _ (by decide)]

/-- Below the palette the launch's map applies (20_memory.md R58). -/
theorem ppuBacking_nametable (cfg : Params) {a : Word} (h : a.toNat % 0x4000 < 0x3F00) :
    ppuBacking cfg a = ntBacking cfg.ntMap (a.toNat % 0x4000) := by
  rw [ppuBacking, if_neg (Nat.not_le.mpr h)]

/-- Settles O24: the two ranges of `ppuBacking`, and a read after a write of PPU memory. -/
theorem ppuSpaceMirrors : Obligations.PpuSpaceMirrors := by
  refine ⟨fun cfg _ h => ppuBacking_palette cfg h, fun cfg _ h => ppuBacking_nametable cfg h, fun s p q v hs => ?_⟩
  obtain ⟨-, -, hppu, -, -⟩ := (wf_iff s).mp hs
  exact Memory.get_set hppu (ppuBacking s.cfg p) (ppuBacking s.cfg q) v

end Sys2Proof.Machine

/-! ### The encoder, the decoder and the CPU's turn (30_encoding.md) -/

namespace Sys2Proof.Machine

open Sys2Proof.Claims

/-! #### Decoding an encoding -/

theorem decode_byte {f : Byte → Instr} {op : Byte} (h : entryOf op = .rel f) (b : Byte) (rest : List Byte) :
    decode (op :: b :: rest) = .ok (f b, rest) := by
  rw [decode_f2 (by rw [h]; rfl), h]
  rfl

/-- The address made of its own two bytes is the address (20_memory.md R52). -/
theorem decode_word {f : Word → Instr} {op : Byte} (h : entryOf op = .tgtw f) (w : Word) (rest : List Byte) :
    decode (op :: lo w :: hi w :: rest) = .ok (f w, rest) := by
  rw [decode_f3 (by rw [h]; rfl), h]
  exact congrArg (fun v => Except.ok (f v, rest)) (word_hi_lo w)

/-- The entry of the decode table for the mode of a memory operand of `f`. -/
def modeEntry (f : MemMode → Instr) : MemMode → Entry
  | .zeroPage _ => .zp f
  | .zeroPageX _ => .zpx f
  | .zeroPageY _ => .zpy f
  | .absolute _ => .abs f
  | .absoluteX _ => .abx f
  | .absoluteY _ => .aby f
  | .zpXIndirect _ => .izx f
  | .zpIndirectY _ => .izy f

theorem decode_memory {f : MemMode → Instr} {op : Byte} (m : MemMode) (h : entryOf op = modeEntry f m) (rest : List Byte) :
    decode (op :: (m.operandBytes ++ rest)) = .ok (f m, rest) := by
  cases m with
  | absolute w | absoluteX w | absoluteY w =>
    apply decode_word
    exact h
  | zeroPage b | zeroPageX b | zeroPageY b | zpXIndirect b | zpIndirectY b =>
    apply decode_byte
    exact h

/-- The opcode byte picks the entry of the instruction's mode, and that entry takes the operand bytes. -/
theorem decode_opcode_operandBytes {i : Instr} {op : Byte} (h : i.opcode = some op) (rest : List Byte) :
    decode (op :: (i.operandBytes ++ rest)) = .ok (i, rest) := by
  cases i with
  | ora o | and o | eor o | adc o | sbc o | cmp o | cpx o | cpy o | lda o | ldx o | ldy o =>
    cases o with
    | immediate b => cases h; rfl
    | memory m =>
      apply decode_memory m
      cases m <;> cases h <;> rfl
  | asl o | lsr o | rol o | ror o =>
    cases o with
    | accumulator => cases h; rfl
    | memory m =>
      apply decode_memory m
      cases m <;> cases h <;> rfl
  | bit m | sta m | stx m | sty m | inc m | dec m =>
    apply decode_memory m
    cases m <;> cases h <;> rfl
  | jmp t =>
    cases t with
    | absolute w | indirect w =>
      cases h
      apply decode_word
      rfl
  | jsr w =>
    cases h
    apply decode_word
    rfl
  | _ => cases h <;> rfl

theorem encode_of_opcode {i : Instr} {op : Byte} (h : i.opcode = some op) : encode i = op :: i.operandBytes := by
  rw [encode, h]

theorem decode_encode {i : Instr} (h : i.opcode.isSome = true) (rest : List Byte) :
    decode (encode i ++ rest) = .ok (i, rest) := by
  obtain ⟨op, hop⟩ := Option.isSome_iff_exists.mp h
  rw [encode_of_opcode hop]
  exact decode_opcode_operandBytes hop rest

/-- Settles O1: an opcode byte is all that the round trip needs. -/
theorem encodingRoundTrip : Obligations.EncodingRoundTrip :=
  fun _ _ h rest => decode_encode h rest

/-! #### The decoder by the format of the opcode byte -/

/-- A list that is too short for its opcode's format is refused (30_encoding.md R81). -/
theorem decode_of_lt {op : Byte} {bs : List Byte} (h : bs.length < (entryOf op).fmt.nb) :
    decode (op :: bs) = .error (.operandMissing op) := by
  cases hf : (entryOf op).fmt with
  | f1 => simp [hf, Format.nb] at h
  | f2 =>
    cases bs with
    | nil => simp [decode, hf]
    | cons b1 bs => simp [hf, Format.nb] at h
  | f3 =>
    match bs, h with
    | [], _ | [b1], _ => simp [decode, hf]
    | b1 :: b2 :: bs, h => simp [hf, Format.nb] at h

/-- A list that is long enough gives an instruction whose encoding is the opcode byte and the operand bytes of its format. -/
theorem decode_of_le {op : Byte} {bs : List Byte} (h : (entryOf op).fmt.nb ≤ bs.length) :
    ∃ i, decode (op :: bs) = .ok (i, bs.drop (entryOf op).fmt.nb) ∧ i.wf = true ∧ i.opcode = some op ∧
      i.operandBytes = bs.take (entryOf op).fmt.nb := by
  cases hf : (entryOf op).fmt with
  | f1 =>
    obtain ⟨hop, hwf, hbytes⟩ := entryOf_build op 0 0
    rw [hf] at hbytes
    exact ⟨_, decode_f1 hf bs, hwf, hop, hbytes⟩
  | f2 =>
    match bs, h with
    | [], h => simp [hf, Format.nb] at h
    | b1 :: bs, _ =>
      obtain ⟨hop, hwf, hbytes⟩ := entryOf_build op b1 0
      rw [hf] at hbytes
      exact ⟨_, decode_f2 hf b1 bs, hwf, hop, hbytes⟩
  | f3 =>
    match bs, h with
    | [], h | [_], h => simp [hf, Format.nb] at h
    | b1 :: b2 :: bs, _ =>
      obtain ⟨hop, hwf, hbytes⟩ := entryOf_build op b1 b2
      rw [hf] at hbytes
      exact ⟨_, decode_f3 hf b1 b2 bs, hwf, hop, hbytes⟩

/-- A list that decodes is long enough, and what is left of it is what its format does not take. -/
theorem decode_cons_eq_ok {op : Byte} {bs rest : List Byte} {i : Instr} (h : decode (op :: bs) = .ok (i, rest)) :
    (entryOf op).fmt.nb ≤ bs.length ∧ rest = bs.drop (entryOf op).fmt.nb ∧ i.wf = true ∧ i.opcode = some op ∧
      i.operandBytes = bs.take (entryOf op).fmt.nb := by
  rcases Nat.lt_or_ge bs.length (entryOf op).fmt.nb with hlt | hle
  · rw [decode_of_lt hlt] at h
    cases h
  · obtain ⟨j, hj, hwf, hop, hbytes⟩ := decode_of_le hle
    rw [hj] at h
    cases h
    exact ⟨hle, rfl, hwf, hop, hbytes⟩

/-- Settles O3: the operand bytes and the rest are the two parts that the format cuts the list into. -/
theorem decodedBytesAreTheEncoding : Obligations.DecodedBytesAreTheEncoding := by
  intro bs i rest h
  cases bs with
  | nil => cases h
  | cons op bs =>
    obtain ⟨-, rfl, hwf, hop, hbytes⟩ := decode_cons_eq_ok h
    rw [encode_of_opcode hop, hbytes, List.cons_append, List.take_append_drop]
    exact ⟨hwf, rfl⟩

/-! #### The undefined opcodes -/

/-- The undefined bytes are those with 0 base cycles, in rising order (30_encoding.md R92; 70_reset_and_hazards.md R366). -/
theorem undefinedBytes_eq : undefinedTable.map Prod.snd =
    ((List.range 256).map (BitVec.ofNat 8)).filter (fun op => baseOf op == 0) := by decide

theorem mem_undefinedBytes_iff (op : Byte) : op ∈ undefinedTable.map Prod.snd ↔ baseOf op = 0 := by
  have hop : op ∈ (List.range 256).map (BitVec.ofNat 8) :=
    List.mem_map.mpr ⟨op.toNat, List.mem_range.mpr op.isLt, (BitVec.ofNat_toNat 8 op).trans (BitVec.setWidth_eq op)⟩
  rw [undefinedBytes_eq, List.mem_filter, beq_iff_eq]
  exact and_iff_right hop

theorem baseOf_le (op : Byte) : baseOf op ≤ 7 := by revert op; decide

/-- Settles O4: `decode_of_lt` and `decode_of_le` for each opcode byte, and the base-cycle table for the 105. -/
theorem decoderIsTotal : Obligations.DecoderIsTotal := by
  refine ⟨rfl, fun op bs => ⟨decode_of_lt, fun h => ?_⟩, fun op => ⟨baseOf_le op, (mem_undefinedBytes_iff op).symm⟩, rfl,
    by decide⟩
  obtain ⟨i, hi, -, hop, hbytes⟩ := decode_of_le h
  exact ⟨i, hi, hop, hbytes⟩

/-- Settles O5: the decoder evaluates each of the eleven closed words. -/
theorem specWordsDecode : Obligations.SpecWordsDecode :=
  ⟨rfl, rfl, rfl, rfl, rfl, rfl, rfl, rfl, rfl, rfl, rfl⟩

/-! #### The CPU's turn -/

theorem State.setTurns_eq_self {s : State} {ts : List Turn} (h : s.turns = ts) : s.setTurns ts = s := by
  subst h
  rfl

/-- With no turn pending, or a CPU turn at the head, the CPU steps in the state with that turn taken off. -/
theorem step_of_cpu {s : State} (h : s.turns = [] ∨ s.turns.head? = some .cpu) :
    step s = cpuStep (s.setTurns s.turns.tail) := by
  obtain h | h := h
  · rw [step, h]
    exact congrArg cpuStep (State.setTurns_eq_self h).symm
  · obtain ⟨ts, hs⟩ := List.head?_eq_some_iff.mp h
    rw [step, hs]
    rfl

theorem cpuStep_of_fetch {s t : State} {i : Instr} (h : fetch s = (i, t)) : cpuStep s = exec i t := by
  rw [cpuStep, h]

theorem nb_injective : Function.Injective Format.nb := by
  intro f g h
  cases f <;> cases g <;> cases h <;> rfl

/-- A list that decodes with nothing left has the operand bytes of its format, and no more. -/
theorem fmt_of_decode {op : Byte} {bs : List Byte} {i : Instr} {f : Format} (h : decode (op :: bs) = .ok (i, []))
    (hf : bs.length = f.nb) : (entryOf op).fmt = f := by
  obtain ⟨hle, hrest, -⟩ := decode_cons_eq_ok h
  exact nb_injective (hf ▸ Nat.le_antisymm hle (List.drop_eq_nil_iff.mp hrest.symm))

/-- An opcode byte that decodes alone is fetched alone (30_encoding.md R84). -/
theorem fetch_of_decode_one {s : State} {i : Instr} (h : decode [(memRead s.pc s).1] = .ok (i, [])) :
    fetch s = (i, (memRead s.pc s).2.setPc (s.pc + 1)) := by
  have hf := fmt_of_decode (f := .f1) h rfl
  rw [decode_f1 hf] at h
  cases h
  simp only [fetch, hf]

/-- An opcode byte that decodes with the byte read after it is fetched with that byte (30_encoding.md R84). -/
theorem fetch_of_decode_two {s : State} {i : Instr} :
    let op := memRead s.pc s
    let b1 := memRead (s.pc + 1) op.2
    decode [op.1, b1.1] = .ok (i, []) → fetch s = (i, b1.2.setPc (s.pc + 2)) := by
  intro op b1 h
  have hf := fmt_of_decode (f := .f2) h rfl
  rw [decode_f2 hf] at h
  cases h
  simp only [fetch, hf, op, b1]

/-- An opcode byte that decodes with the two bytes read after it is fetched with them (30_encoding.md R84). -/
theorem fetch_of_decode_three {s : State} {i : Instr} :
    let op := memRead s.pc s
    let b1 := memRead (s.pc + 1) op.2
    let b2 := memRead (s.pc + 2) b1.2
    decode [op.1, b1.1, b2.1] = .ok (i, []) → fetch s = (i, b2.2.setPc (s.pc + 3)) := by
  intro op b1 b2 h
  have hf := fmt_of_decode (f := .f3) h rfl
  rw [decode_f3 hf] at h
  cases h
  simp only [fetch, hf, op, b1, b2]

/-- Settles O6: the number of bytes decoded is the number that is fetched. -/
theorem stepRunsDecodedInstruction : Obligations.StepRunsDecodedInstruction := by
  intro s hs op b1 b2 i _
  rw [step_of_cpu hs]
  exact ⟨fun h => cpuStep_of_fetch (fetch_of_decode_one h), fun h => cpuStep_of_fetch (fetch_of_decode_two h),
    fun h => cpuStep_of_fetch (fetch_of_decode_three h)⟩

theorem exec_completes (i : Instr) (s : State) : ∃ t, exec i s = .next t := by
  obtain ⟨t, ht, -⟩ := exec_listedOnly i s
  exact ⟨t, ht⟩

theorem runCall_completes (c : Turn) (s : State) : ∃ t, runCall c s = .next t := by
  cases hc : decodeCall c s.ppu.w with
  | some i => rw [runCall_of_row hc]; exact exec_completes i s
  | none => exact ⟨_, runCall_of_noRow hc⟩

/-- Settles O8: every turn runs an instruction or a call, and both complete. -/
theorem everyStepCompletes : Obligations.EveryStepCompletes := by
  intro s
  rw [Completes]
  cases hs : s.turns with
  | nil => rw [step_of_cpu (.inl hs)]; exact exec_completes _ _
  | cons c ts =>
    by_cases hc : c = .cpu
    · rw [step_of_cpu (.inr (by rw [hs, hc]; rfl))]
      exact exec_completes _ _
    · rw [step_of_call hs hc]
      exact runCall_completes c _

/-! #### A step on an undefined opcode -/

theorem encode_undefinedTable : undefinedTable.map (fun p => encode p.1) = undefinedTable.map (fun p => [p.2]) := rfl

theorem exec_undefinedTable : undefinedTable.map (fun p => exec p.1) = List.replicate 105 undefinedNop := rfl

theorem encode_of_mem_undefinedTable {p : Instr × Byte} (hp : p ∈ undefinedTable) : encode p.1 = [p.2] :=
  List.map_inj_left.mp encode_undefinedTable p hp

theorem exec_of_mem_undefinedTable {p : Instr × Byte} (hp : p ∈ undefinedTable) (s : State) :
    exec p.1 s = .next (s.setCycles 0) := by
  have h : exec p.1 ∈ List.replicate 105 undefinedNop := exec_undefinedTable ▸ List.mem_map_of_mem hp
  rw [List.eq_of_mem_replicate h, undefinedNop]

/-- An instruction that has an encoding has an opcode byte, so its encoding decodes to it. -/
theorem decode_of_encode_eq_cons {i : Instr} {op : Byte} {bs : List Byte} (h : encode i = op :: bs) :
    decode (op :: bs) = .ok (i, []) := by
  have hop : i.opcode.isSome = true := by
    rw [Option.isSome_iff_ne_none]
    intro hn
    rw [encode, hn] at h
    cases h
  rw [← h, ← List.append_nil (encode i)]
  exact decode_encode hop []

/-- Settles O46: each undefined byte decodes alone, so a step reads it alone, and its instruction does nothing. -/
theorem undefinedOpcodesAreNoOps : Obligations.UndefinedOpcodesAreNoOps := by
  refine ⟨rfl, fun p hp => ?_⟩
  have henc := encode_of_mem_undefinedTable hp
  have hdec := decode_of_encode_eq_cons henc
  refine ⟨henc, hdec, fun s => ⟨exec_of_mem_undefinedTable hp s, fun hs hread => ?_⟩⟩
  rw [step_of_cpu (.inl hs), hs, List.tail_nil, State.setTurns_eq_self hs,
    cpuStep_of_fetch (fetch_of_decode_one (hread.symm ▸ hdec)), exec_of_mem_undefinedTable hp]
  rfl

end Sys2Proof.Machine

/-! ### The addressing-mode resolver and operand access (40_addressing.md) -/

namespace Sys2Proof.Machine

/-! #### Effective addresses as numbers -/

/-- An index added to a zero-page address stays in page zero (40_addressing.md R115, R116). -/
theorem zext16_add (b x : Byte) : zext16 (b + x) = BitVec.ofNat 16 ((b.toNat + x.toNat) % 256) := by
  rw [zext16_eq, BitVec.toNat_add]

/-- What a mode that indexes a full address answers, by the number that the base address is (40_addressing.md R118, R124). -/
theorem indexed_resolved_eq {base : Word} {n : Nat} (h : base.toNat = n) (x : Byte) (s : State) :
    (⟨base + zext16 x, crosses base (base + zext16 x), s⟩ : Resolved) =
      ⟨BitVec.ofNat 16 ((n + x.toNat) % 65536), decide ((n + x.toNat) % 65536 / 256 ≠ n / 256), s⟩ := by
  have hea : (base + zext16 x).toNat = (n + x.toNat) % 65536 := h ▸ indexed_toNat base x
  rw [crosses_eq, hea, h, (BitVec.toNat_eq_nat.mp hea).2]

/-- A pointer in page zero as a number: its second byte is read inside page zero (40_addressing.md R121, R122). -/
theorem zpPointer_toNat {p : Byte} {n : Nat} (h : p.toNat = n % 256) (s : State) :
    (zpPointer p s).1.toNat = (s.cpuMem.get (n % 256)).toNat + (s.cpuMem.get ((n + 1) % 256)).toNat * 256 := by
  have hsucc : (p + 1).toNat = (n + 1) % 256 := by
    rw [BitVec.toNat_add, h]
    exact Nat.mod_add_mod n 256 1
  rw [zpPointer_eq, word_toNat, h, hsucc, Nat.add_comm]

theorem zpPointer_st (p : Byte) (s : State) : (zpPointer p s).2 = s := by
  rw [zpPointer_eq]

/-! #### What each group of modes answers -/

/-- Settles O27: the pointer as a number, to which ZP_INDIRECT_Y adds `y` over all 16 bits. -/
theorem resolverPointerModes : Obligations.ResolverPointerModes := by
  intro b1 s
  have hx := zpPointer_toNat (BitVec.toNat_add b1 s.x) s
  have hy := zpPointer_toNat (Nat.mod_eq_of_lt b1.isLt).symm s
  refine ⟨?_, ?_, rfl, rfl⟩
  · rw [resolve, (BitVec.toNat_eq_nat.mp hx).2, zpPointer_st]
  · rw [resolve, zpPointer_st]
    exact indexed_resolved_eq hy s.y s

/-- The page is that of the second operand byte, the high byte of the base (40_addressing.md R118, R119). -/
theorem absoluteIndexed_resolved_eq (b1 b2 x : Byte) (s : State) :
    let base := b2.toNat * 256 + b1.toNat
    (⟨word b2 b1 + zext16 x, crosses (word b2 b1) (word b2 b1 + zext16 x), s⟩ : Resolved) =
      ⟨BitVec.ofNat 16 ((base + x.toNat) % 65536), decide ((base + x.toNat) % 65536 / 256 ≠ b2.toNat), s⟩ := by
  rw [indexed_resolved_eq rfl, ← hi_toNat, hi_word, word_toNat]

theorem operandBytes_zeroPage (b1 : Byte) :
    ∀ m ∈ [MemMode.zeroPage b1, .zeroPageX b1, .zeroPageY b1], m.operandBytes = [b1] := by
  simp [MemMode.operandBytes]

/-- The two operand bytes of an address, low byte first (20_memory.md R52). -/
theorem operandBytes_absolute (b1 b2 : Byte) :
    ∀ m ∈ [MemMode.absolute (word b2 b1), .absoluteX (word b2 b1), .absoluteY (word b2 b1)], m.operandBytes = [b1, b2] := by
  simp [MemMode.operandBytes]

/-- Settles O26: each of the six modes answers at once, and its address as a number is `zext16_eq`, `zext16_add`, `word_eq` or the
indexed sum. -/
theorem resolverDirectModes : Obligations.ResolverDirectModes := by
  intro b1 b2 s base
  refine ⟨?_, ?_, ?_, ?_, absoluteIndexed_resolved_eq b1 b2 s.x s, absoluteIndexed_resolved_eq b1 b2 s.y s,
    operandBytes_zeroPage b1, operandBytes_absolute b1 b2⟩
  · rw [resolve, zext16_eq]
  · rw [resolve, zext16_add]
  · rw [resolve, zext16_add]
  · rw [resolve, word_eq]

/-! #### Operand access -/

/-- A memory operand is one read of `ea`, in the state before the mode was resolved (40_addressing.md R126). -/
theorem readSource_memory (m : MemMode) (s : State) :
    readSource (.memory m) s = ⟨(memRead (resolve m s).ea s).1, (resolve m s).cross, (memRead (resolve m s).ea s).2⟩ := by
  rw [readSource, resolve_st]

/-- Settles O28: the one read of `ea` is a read of storage or of a port. -/
theorem operandAccess : Obligations.OperandAccess := by
  refine ⟨fun _ _ => rfl, fun m s => ⟨resolve_st m s, fun k h => ?_, fun p h => ?_⟩⟩
  · rw [readSource_memory, memRead_cell h]
  · rw [readSource_memory, memRead_port h]

end Sys2Proof.Machine

/-! ### The ALU (41_alu.md) -/

namespace Sys2Proof.Machine

open Sys2Proof.Claims

/-! #### Which flags an operation drives -/

/-- The column `c` of 41_alu.md R159. -/
def AluOp.drivesC : AluOp → Bool
  | .asl | .lsr | .rol | .ror | .adc | .sbc | .cmp => true
  | _ => false

/-- The column `vf` of 41_alu.md R159. -/
def AluOp.drivesV : AluOp → Bool
  | .bit | .adc | .sbc => true
  | _ => false

theorem alu_c_of_not_drivesC {op : AluOp} (h : op.drivesC = false) (A B : Byte) (cin : Bool) : (alu op A B cin).c = none := by
  cases op <;> cases h <;> rfl

theorem alu_vf_of_not_drivesV {op : AluOp} (h : op.drivesV = false) (A B : Byte) (cin : Bool) :
    (alu op A B cin).vf = none := by
  cases op <;> cases h <;> rfl

/-- Every operation takes zero from its result (41_alu.md R141). -/
theorem alu_z (op : AluOp) (A B : Byte) (cin : Bool) : (alu op A B cin).z = some (decide ((alu op A B cin).r = 0)) := by
  cases op <;> rfl

/-- Every operation but BIT takes negative from its result; the one of LSR has bit 7 clear (41_alu.md R141, R147). -/
theorem alu_n {op : AluOp} (h : op ≠ .bit) (A B : Byte) (cin : Bool) :
    (alu op A B cin).n = some ((alu op A B cin).r.getLsbD 7) := by
  cases op with
  | bit => exact absurd rfl h
  | lsr =>
    have hbit : (B >>> 1).getLsbD 7 = false := (BitVec.getLsbD_ushiftRight B 1 7).trans (BitVec.getLsbD_of_ge B 8 le_rfl)
    exact congrArg some hbit.symm
  | _ => rfl

/-- An output that does not drive `c` leaves it. -/
theorem drive_of_c_none {o : AluOut} (h : o.c = none) (p : Status) :
    p.drive o = { p with z := o.z.getD p.z, vf := o.vf.getD p.vf, n := o.n.getD p.n } := by
  rw [Status.drive, h, Option.getD_none]

/-- An output that does not drive `vf` leaves it. -/
theorem drive_of_vf_none {o : AluOut} (h : o.vf = none) (p : Status) :
    p.drive o = { p with c := o.c.getD p.c, z := o.z.getD p.z, n := o.n.getD p.n } := by
  rw [Status.drive, h, Option.getD_none]

/-- An output that drives neither `c` nor `vf` leaves both. -/
theorem drive_of_c_vf_none {o : AluOut} (hc : o.c = none) (hv : o.vf = none) (p : Status) :
    p.drive o = { p with z := o.z.getD p.z, n := o.n.getD p.n } := by
  rw [drive_of_c_none hc, hv, Option.getD_none]

/-- Settles O20: the operations of each clause leave `c` and `vf` out as their row says. -/
theorem aluDrivesOnlyItsFlags : Obligations.AluDrivesOnlyItsFlags := by
  intro A B cin p
  refine ⟨fun op hop => ?_, ?_, fun op hop => ?_, fun op _ => ⟨_, _, _, _, rfl⟩⟩
  · have hrow : ∀ op ∈ [AluOp.ora, .and, .eor, .inc, .dec, .pass], op.drivesC = false ∧ op.drivesV = false := by decide
    obtain ⟨hc, hv⟩ := hrow op hop
    exact ⟨_, _, drive_of_c_vf_none (alu_c_of_not_drivesC hc A B cin) (alu_vf_of_not_drivesV hv A B cin) p⟩
  · exact ⟨_, _, _, drive_of_c_none rfl p⟩
  · have hrow : ∀ op ∈ [AluOp.asl, .lsr, .rol, .ror, .cmp], op.drivesV = false := by decide
    exact ⟨_, _, _, drive_of_vf_none (alu_vf_of_not_drivesV (hrow op hop) A B cin) p⟩

/-! #### Logic, compare, increment and decrement -/

/-- Settles O14: each result is one bitwise operation, and only BIT takes negative and overflow from its operand. -/
theorem aluLogicAndBitTest : Obligations.AluLogicAndBitTest := by
  intro A B cin
  refine ⟨fun _ => BitVec.getLsbD_or, fun _ => BitVec.getLsbD_and, fun _ => BitVec.getLsbD_xor, fun _ => BitVec.getLsbD_and,
    fun op hop => ?_, ⟨rfl, rfl, alu_z .bit A B cin, rfl⟩, fun hAB => ?_⟩
  · have hrow : ∀ op ∈ [AluOp.ora, .and, .eor], op.drivesC = false ∧ op.drivesV = false ∧ op ≠ .bit := by decide
    obtain ⟨hc, hv, hn⟩ := hrow op hop
    exact ⟨alu_c_of_not_drivesC hc A B cin, alu_vf_of_not_drivesV hv A B cin, alu_z op A B cin, alu_n hn A B cin⟩
  · have hr : (alu .eor A B cin).r = 0 := hAB ▸ BitVec.xor_self
    rw [alu_z, hr]
    rfl

/-- The difference of two bytes as the residue of the integer difference (41_alu.md R157). -/
theorem byte_sub_toNat (A B : Byte) : ((A - B).toNat : Int) = ((A.toNat : Int) - B.toNat) % 256 := by
  have hB := B.isLt
  rw [BitVec.toNat_sub]
  omega

/-- Settles O19: CMP and DEC are differences of bytes, INC a sum; a difference is 0 only of equal bytes. -/
theorem aluCompareIncrementDecrementPass : Obligations.AluCompareIncrementDecrementPass := by
  intro A B cin
  refine ⟨byte_sub_toNat A B, rfl, ?_, BitVec.toNat_add B 1, byte_sub_toNat B 1, rfl, fun op hop => ?_, fun op hop => ?_⟩
  · have hzero : (alu .cmp A B cin).r = 0 ↔ A = B := sub_eq_zero
    rw [alu_z, decide_eq_decide.mpr hzero]
  · have hrow : ∀ op ∈ [AluOp.inc, .dec, .pass], op.drivesC = false := by decide
    exact alu_c_of_not_drivesC (hrow op hop) A B cin
  · have hrow : ∀ op ∈ [AluOp.cmp, .inc, .dec, .pass], op ≠ .bit ∧ op.drivesV = false := by decide
    obtain ⟨hn, hv⟩ := hrow op hop
    exact ⟨alu_z op A B cin, alu_n hn A B cin, alu_vf_of_not_drivesV hv A B cin⟩

/-! #### Shifts and rotates -/

/-- Bit 0 of a byte is its parity. -/
theorem byte_lsb (b : Byte) : b.getLsbD 0 = decide (b.toNat % 2 = 1) := Nat.testBit_zero b.toNat

theorem alu_lsr_toNat (A B : Byte) (cin : Bool) : (alu .lsr A B cin).r.toNat = B.toNat / 2 := BitVec.toNat_ushiftRight B 1

theorem alu_asl_toNat (A B : Byte) (cin : Bool) : (alu .asl A B cin).r.toNat = B.toNat * 2 % 256 :=
  (congrArg BitVec.toNat (byte_shiftLeft B)).trans (BitVec.toNat_ofNat _ _)

theorem alu_rol_toNat (A B : Byte) (cin : Bool) : (alu .rol A B cin).r.toNat = (B.toNat * 2 + cin.toNat) % 256 :=
  (congrArg BitVec.toNat (byte_rotateLeft B cin)).trans (BitVec.toNat_ofNat _ _)

theorem alu_ror_toNat (A B : Byte) (cin : Bool) : (alu .ror A B cin).r.toNat = B.toNat / 2 + cin.toNat * 128 := by
  have hB := B.isLt
  have hc := cin.toNat_le
  have hr := (congrArg BitVec.toNat (byte_rotateRight B cin)).trans (BitVec.toNat_ofNat _ _)
  exact hr.trans (Nat.mod_eq_of_lt (by omega))

/-- The bit that ROR puts on top is the old carry (41_alu.md R149). -/
theorem alu_ror_n (A B : Byte) (cin : Bool) : (alu .ror A B cin).n = some cin :=
  congrArg some (BitVec.getLsbD_append.trans (BitVec.getLsbD_ofBool cin 0))

/-- The byte and the carry after a ROL of the byte (41_alu.md R148). -/
def rolStep (p : Byte × Bool) : Byte × Bool := ((alu .rol 0 p.1 p.2).r, (alu .rol 0 p.1 p.2).c.getD p.2)

/-- A byte and a carry as a ring of nine bits, the carry at place 8; places count modulo 9. -/
def ringBit (p : Byte × Bool) (k : Nat) : Bool := if k % 9 = 8 then p.2 else p.1.getLsbD (k % 9)

/-- ROL moves every bit of the byte up one place and the old carry into bit 0. -/
theorem alu_rol_getLsbD (A B : Byte) (cin : Bool) {k : Nat} (hk : k < 8) :
    (alu .rol A B cin).r.getLsbD k = if k = 0 then cin else B.getLsbD (k - 1) := by
  have hr : (alu .rol A B cin).r.getLsbD k = (B.extractLsb' 0 7 ++ BitVec.ofBool cin).getLsbD k := rfl
  rw [hr, BitVec.getLsbD_append]
  split
  · next h0 => simp [Nat.lt_one_iff.mp h0]
  · next h0 => simp [show k ≠ 0 by omega, show k - 1 < 7 by omega]

/-- ROL turns the ring by one place. -/
theorem ringBit_rolStep (p : Byte × Bool) (k : Nat) : ringBit (rolStep p) (k + 1) = ringBit p k := by
  obtain ⟨B, c⟩ := p
  simp only [ringBit, rolStep]
  by_cases h8 : k % 9 = 8
  · have h0 : (k + 1) % 9 = 0 := by omega
    rw [h0, if_neg (by decide), if_pos h8, alu_rol_getLsbD _ _ _ (by decide), if_pos rfl]
  · have hs : (k + 1) % 9 = k % 9 + 1 := by omega
    rw [hs, if_neg h8]
    split
    · next htop =>
      have h7 : k % 9 = 7 := by omega
      rw [h7]
      rfl
    · rw [alu_rol_getLsbD _ _ _ (by omega), if_neg (by omega), Nat.add_sub_cancel]

theorem ringBit_rolStep_iterate (p : Byte × Bool) (n k : Nat) : ringBit (rolStep^[n] p) (k + n) = ringBit p k := by
  induction n with
  | zero => rfl
  | succ n ih => rw [Function.iterate_succ_apply', ← Nat.add_assoc, ringBit_rolStep, ih]

theorem ringBit_injective : Function.Injective ringBit := by
  intro p q h
  refine Prod.ext (BitVec.eq_of_getLsbD_eq fun i hi => ?_) (congrFun h 8)
  have hi9 : i % 9 = i := Nat.mod_eq_of_lt (by omega)
  simpa [ringBit, hi9, show i ≠ 8 by omega] using congrFun h i

/-- Nine turns of the ring of nine bits restore it (41_alu.md R148). -/
theorem rolStep_iterate_nine (p : Byte × Bool) : rolStep^[9] p = p := by
  refine ringBit_injective (funext fun k => ?_)
  rw [← ringBit_rolStep_iterate p 9 k]
  simp only [ringBit, Nat.add_mod_right]

/-- Settles O15: the results and carries are the arithmetic of the shifted byte, and nine ROLs turn the ring once around. -/
theorem aluShiftsAndRotates : Obligations.AluShiftsAndRotates := by
  refine ⟨fun A B cin => ?_, fun B cin => rolStep_iterate_nine (B, cin)⟩
  have hmsb := congrArg some (byte_msb B)
  have hlsb := congrArg some (byte_lsb B)
  refine ⟨alu_asl_toNat A B cin, hmsb, alu_lsr_toNat A B cin, hlsb, rfl, alu_rol_toNat A B cin, hmsb, alu_ror_toNat A B cin,
    hlsb, alu_ror_n A B cin, fun op hop => ?_⟩
  have hrow : ∀ op ∈ [AluOp.asl, .lsr, .rol, .ror], op ≠ .bit ∧ op.drivesV = false := by decide
  obtain ⟨hn, hv⟩ := hrow op hop
  exact ⟨alu_z op A B cin, alu_n hn A B cin, alu_vf_of_not_drivesV hv A B cin⟩

/-! #### Add and subtract -/

theorem alu_adc_toNat (A B : Byte) (cin : Bool) :
    (alu .adc A B cin).r.toNat = (A.toNat + B.toNat + cin.toNat) % 256 := BitVec.toNat_ofNat _ _

/-- The masked expression of ADC tests the sign bits (41_alu.md R150). -/
theorem masked_adc_eq (A B R : Byte) : decide ((A ^^^ R) &&& (B ^^^ R) &&& 0x80 ≠ 0) =
    (A.getLsbD 7 == B.getLsbD 7 && R.getLsbD 7 != A.getLsbD 7) := by
  rw [byte_and_msb, BitVec.getLsbD_and, BitVec.getLsbD_xor, BitVec.getLsbD_xor]
  cases A.getLsbD 7 <;> cases B.getLsbD 7 <;> cases R.getLsbD 7 <;> rfl

/-- The masked expression of SBC is the one of ADC with the operand complemented (41_alu.md R151, R158). -/
theorem masked_sbc_eq (A B R : Byte) : decide ((A ^^^ B) &&& (A ^^^ R) &&& 0x80 ≠ 0) =
    decide ((A ^^^ R) &&& ((B ^^^ 0xFF) ^^^ R) &&& 0x80 ≠ 0) := by
  simp only [byte_and_msb, BitVec.getLsbD_and, BitVec.getLsbD_xor]
  cases A.getLsbD 7 <;> cases B.getLsbD 7 <;> cases R.getLsbD 7 <;> rfl

theorem alu_adc_vf_masked (A B : Byte) (cin : Bool) : (alu .adc A B cin).vf =
    some (decide ((A ^^^ (alu .adc A B cin).r) &&& (B ^^^ (alu .adc A B cin).r) &&& 0x80 ≠ 0)) :=
  congrArg some (decide_not ..).symm

theorem alu_sbc_vf_masked (A B : Byte) (cin : Bool) : (alu .sbc A B cin).vf =
    some (decide ((A ^^^ B) &&& (A ^^^ (alu .sbc A B cin).r) &&& 0x80 ≠ 0)) :=
  congrArg some (decide_not ..).symm

/-- A sum of signed bytes and a carry leaves -128 to 127 exactly when the signs of the operands agree and the sign of the
result is the other (41_alu.md R150). -/
theorem signedSum_overflow {A B R : Byte} {c : Bool} (hR : R.toNat = (A.toNat + B.toNat + c.toNat) % 256) :
    decide (signed A + signed B + c.toNat < -128 ∨ 127 < signed A + signed B + c.toNat) =
      (A.getLsbD 7 == B.getLsbD 7 && R.getLsbD 7 != A.getLsbD 7) := by
  have hA := A.isLt
  have hB := B.isLt
  have hc := c.toNat_le
  rw [Bool.eq_iff_iff, decide_eq_true_eq]
  simp only [byte_msb, signed, Bool.and_eq_true, beq_iff_eq, bne_iff_ne, ne_eq, decide_eq_decide]
  split <;> split <;> omega

/-- Settles O16: the sign test is the masked expression and the signed overflow. -/
theorem aluAddWithCarry : Obligations.AluAddWithCarry := by
  intro A B cin T S o
  have hmask : o.vf = some (decide ((A ^^^ o.r) &&& (B ^^^ o.r) &&& 0x80 ≠ 0)) := alu_adc_vf_masked A B cin
  have hsign : o.vf = some (A.getLsbD 7 == B.getLsbD 7 && o.r.getLsbD 7 != A.getLsbD 7) := by rw [hmask, masked_adc_eq]
  have hover : o.vf = some (decide (S < -128 ∨ 127 < S)) := by rw [hsign, ← signedSum_overflow (alu_adc_toNat A B cin)]
  exact ⟨alu_adc_toNat A B cin, rfl, alu_z .adc A B cin, alu_n (by decide) A B cin, hover, hsign, hmask⟩

theorem alu_sbc_r (A B : Byte) (cin : Bool) : (alu .sbc A B cin).r = (alu .adc A (B ^^^ 0xFF) cin).r := by
  have hB := B.isLt
  have hr : (alu .sbc A B cin).r = BitVec.ofInt 8 (A.toNat - B.toNat - (1 - cin.toNat)) := rfl
  apply BitVec.eq_of_toNat_eq
  rw [alu_adc_toNat, byte_complement, hr, BitVec.toNat_ofInt]
  omega

/-- No borrow of the difference is a carry of the sum with the complement. -/
theorem alu_sbc_c (A B : Byte) (cin : Bool) : (alu .sbc A B cin).c = (alu .adc A (B ^^^ 0xFF) cin).c := by
  have hB := B.isLt
  have hcarry : (0 : Int) ≤ A.toNat - B.toNat - (1 - cin.toNat) ↔ 256 ≤ A.toNat + (B ^^^ 0xFF).toNat + cin.toNat := by
    rw [byte_complement]
    omega
  exact congrArg some (decide_eq_decide.mpr hcarry)

theorem alu_sbc_vf (A B : Byte) (cin : Bool) : (alu .sbc A B cin).vf = (alu .adc A (B ^^^ 0xFF) cin).vf := by
  rw [alu_sbc_vf_masked, alu_adc_vf_masked, masked_sbc_eq, alu_sbc_r]

theorem AluOut.ext_fields {o q : AluOut} (hr : o.r = q.r) (hc : o.c = q.c) (hz : o.z = q.z) (hvf : o.vf = q.vf)
    (hn : o.n = q.n) : o = q := by
  cases o
  cases q
  simp only [AluOut.mk.injEq]
  exact ⟨hr, hc, hz, hvf, hn⟩

/-- Settles O18: the results agree, zero and negative follow from them, and carry and overflow agree. -/
theorem subtractIsAddOfComplement : Obligations.SubtractIsAddOfComplement := by
  intro A B cin
  have hr := alu_sbc_r A B cin
  refine AluOut.ext_fields hr (alu_sbc_c A B cin) ?_ (alu_sbc_vf A B cin) ?_
  · rw [alu_z, alu_z, hr]
  · rw [alu_n (op := .sbc) (by decide), alu_n (op := .adc) (by decide), hr]

/-- The complement of a byte is one less than its negative, as a signed value. -/
theorem signed_complement (b : Byte) : signed (b ^^^ 0xFF) = -1 - signed b := by
  have hb := b.isLt
  simp only [signed, byte_complement]
  split <;> split <;> omega

/-- Settles O17: by O18 the overflow of the difference is the one of the sum with the complement. -/
theorem aluSubtractWithBorrow : Obligations.AluSubtractWithBorrow := by
  intro A B cin T S o
  have hadd : o = alu .adc A (B ^^^ 0xFF) cin := subtractIsAddOfComplement A B cin
  obtain ⟨-, -, hz, hn, hover, hsign, -⟩ := aluAddWithCarry A (B ^^^ 0xFF) cin
  rw [← hadd] at hz hn hover hsign
  have hB := B.isLt
  have hr : (o.r.toNat : Int) = T % 256 := by
    rw [hadd, alu_adc_toNat, byte_complement]
    omega
  have hS : signed A + signed (B ^^^ 0xFF) + cin.toNat = S := by
    rw [signed_complement]
    omega
  have hmsb : (B ^^^ 0xFF).getLsbD 7 = !B.getLsbD 7 := BitVec.getLsbD_xor.trans (Bool.xor_true _)
  rw [hS] at hover
  rw [hmsb] at hsign
  refine ⟨hr, rfl, hz, hn, hover, ?_, alu_sbc_vf_masked A B cin⟩
  rw [hsign]
  cases A.getLsbD 7 <;> cases B.getLsbD 7 <;> rfl

end Sys2Proof.Machine

/-! ### The forms of an instruction, logic and BIT (30_encoding.md R91; 42_logic_bit.md) -/

namespace Sys2Proof.Machine

open Sys2Proof.Claims

/-! #### The forms of an instruction -/

/-- The row of the opcode map that a list of forms writes out (30_encoding.md R91). -/
def opcodeRow (rows : List Row) : List (Mode × Byte) := rows.map fun r => (r.mode, r.op)

/-- The forms are read off the model's tables: the well-formedness check has their modes, each once, the opcode map their bytes, and
the cycle table their base cycles (30_encoding.md R91; 70_reset_and_hazards.md R366). -/
structure FormsInTables {α : Type} (mk : α → Instr) (mode : α → Mode) (rows : List Row) : Prop where
  nodup : (rows.map Row.mode).Nodup
  wf : ∀ o, (mk o).wf = (rows.map Row.mode).contains (mode o)
  opcode : ∀ o, (mk o).opcode = codeOf (opcodeRow rows) (mode o)
  base : ∀ r ∈ rows, baseOf r.op = r.base

/-- Modes that occur once each: the opcode map finds the byte of every form. -/
theorem codeOf_opcodeRow {rows : List Row} (hnd : (rows.map Row.mode).Nodup) {r : Row} (hr : r ∈ rows) :
    codeOf (opcodeRow rows) r.mode = some r.op := by
  induction rows with
  | nil => cases hr
  | cons q qs ih =>
    obtain ⟨hq, hqs⟩ := List.nodup_cons.mp hnd
    rw [opcodeRow, List.map_cons, codeOf, List.lookup_cons]
    obtain rfl | hr := List.mem_cons.mp hr
    · rw [beq_self_eq_true]
    · have hne : r.mode ≠ q.mode := fun h => hq (h ▸ List.mem_map_of_mem hr)
      rw [beq_false_of_ne hne]
      exact ih hqs hr

section
variable {α : Type} {mk : α → Instr} {mode : α → Mode} {rows : List Row} (h : FormsInTables mk mode rows)
include h

theorem FormsInTables.opcode_eq {r : Row} (hr : r ∈ rows) {o : α} (hm : r.mode = mode o) : (mk o).opcode = some r.op := by
  rw [h.opcode, ← hm, codeOf_opcodeRow h.nodup hr]

theorem FormsInTables.hasForms : HasForms mk mode rows := by
  refine fun o => ⟨?_, fun _ hr hm => h.opcode_eq hr hm⟩
  rw [h.wf, List.contains_iff_mem, List.mem_map]

theorem FormsInTables.baseCycles_eq {r : Row} (hr : r ∈ rows) {o : α} (hm : r.mode = mode o) :
    baseCycles (mk o) = r.base := by
  rw [baseCycles, h.opcode_eq hr hm]
  exact h.base r hr

end

/-- Only a mode that indexes a full address can cross a page (40_addressing.md R124). -/
theorem resolve_cross_of_not_indexed {m : MemMode} (h : m.mode ∉ [Mode.absoluteX, .absoluteY, .zpIndirectY]) (s : State) :
    (resolve m s).cross = false := by
  cases m with
  | absoluteX w | absoluteY w | zpIndirectY b => simp [MemMode.mode] at h
  | _ => rfl

/-! #### ORA, AND and EOR -/

/-- The flags of a result that drives zero and negative only are those of `SetZN` (00_scope.md R13; 41_alu.md R141). -/
theorem drive_outZN (r : Byte) (p : Status) : p.drive (outZN r) = zn r p := rfl

/-- An operation stored in the accumulator whose ALU output is a result `f A B` with its zero and negative. -/
theorem accumulatorResult_of_outZN {mk : Source → Instr} {op : AluOp} {rows : List Row} {f : Byte → Byte → Byte}
    (hforms : FormsInTables mk Source.mode rows) (hexec : ∀ o s, exec (mk o) s = .next (aluToA op o (mk o) s))
    (halu : ∀ A B cin, alu op A B cin = outZN (f A B)) : AccumulatorResult mk rows f := by
  refine ⟨hforms.hasForms, fun r hr o s hm => ?_⟩
  rw [hexec, aluToA_eq]
  dsimp only
  rw [halu, drive_outZN, hforms.baseCycles_eq hr hm.symm]
  rfl

theorem formsInTables_ora :
    FormsInTables .ora Source.mode (aluRows 0x09 0x05 0x15 0x0D 0x1D 0x19 0x01 0x11) :=
  ⟨by decide, fun _ => rfl, fun _ => rfl, by decide⟩

theorem formsInTables_and :
    FormsInTables .and Source.mode (aluRows 0x29 0x25 0x35 0x2D 0x3D 0x39 0x21 0x31) :=
  ⟨by decide, fun _ => rfl, fun _ => rfl, by decide⟩

theorem formsInTables_eor :
    FormsInTables .eor Source.mode (aluRows 0x49 0x45 0x55 0x4D 0x5D 0x59 0x41 0x51) :=
  ⟨by decide, fun _ => rfl, fun _ => rfl, by decide⟩

/-- Settles O29: each is `aluToA` of its ALU operation, which drives zero and negative only. -/
theorem logicInstructions : Obligations.LogicInstructions :=
  ⟨accumulatorResult_of_outZN (op := .ora) formsInTables_ora (fun _ _ => rfl) fun _ _ _ => rfl,
    accumulatorResult_of_outZN (op := .and) formsInTables_and (fun _ _ => rfl) fun _ _ _ => rfl,
    accumulatorResult_of_outZN (op := .eor) formsInTables_eor (fun _ _ => rfl) fun _ _ _ => rfl⟩

/-! #### BIT -/

theorem formsInTables_bit : FormsInTables .bit MemMode.mode [⟨.zeroPage, 0x24, 3⟩, ⟨.absolute, 0x2C, 4⟩] :=
  ⟨by decide, fun _ => rfl, fun _ => rfl, by decide⟩

theorem drive_alu_bit (A B : Byte) (cin : Bool) (p : Status) : p.drive (alu .bit A B cin) =
    { p with z := decide (A &&& B = 0), n := B.getLsbD 7, vf := B.getLsbD 6 } := rfl

theorem exec_bit_eq (m : MemMode) (s : State) :
    exec (.bit m) s = .next (aluTest .bit s.a (.memory m) (.bit m) s) := rfl

/-- Settles O30: neither form indexes, so there is no page-cross cycle. -/
theorem bitTestInstruction : Obligations.BitTestInstruction := by
  refine ⟨formsInTables_bit.hasForms, fun r hr m s hm => ?_⟩
  have hmodes : ∀ r ∈ [(⟨.zeroPage, 0x24, 3⟩ : Row), ⟨.absolute, 0x2C, 4⟩],
      r.mode ∉ [Mode.absoluteX, .absoluteY, .zpIndirectY] := by decide
  have hcross : (readSource (.memory m) s).cross = false := resolve_cross_of_not_indexed (hm ▸ hmodes r hr) s
  rw [exec_bit_eq, aluTest_eq]
  dsimp only
  rw [drive_alu_bit, formsInTables_bit.baseCycles_eq hr hm.symm, hcross]
  rfl

end Sys2Proof.Machine

/-! ### Shifts and rotates (43_shift_rotate.md) -/

namespace Sys2Proof.Machine

open Sys2Proof.Claims

/-! #### Read-modify-write -/

/-- What the ALU operation `op` computes of its operand `B` and the carry: the result `res B cin`, and the flags `fl B (res B cin)`. -/
structure AluComputes (op : AluOp) (res : Byte → Bool → Byte) (fl : Byte → Byte → Status → Status) : Prop where
  result : ∀ A B cin, (alu op A B cin).r = res B cin
  flags : ∀ A B cin p, p.drive (alu op A B cin) = fl B (res B cin) p

section
variable {op : AluOp} {res : Byte → Bool → Byte} {fl : Byte → Byte → Status → Status} (halu : AluComputes op res fl)
include halu

/-- A memory operand that is read once and whose result is written back once. -/
theorem AluComputes.modifyResult {mk : MemMode → Instr} {rows : List Row}
    (hexec : ∀ m s, exec (mk m) s = .next (modifyMem op m (mk m) s))
    (hbase : ∀ r ∈ rows, ∀ m, m.mode = r.mode → baseCycles (mk m) = r.base) : ModifyResult mk rows res fl := by
  intro r hr m s hm
  rw [hexec, modifyMem_eq]
  dsimp only
  rw [halu.result, halu.flags, hbase r hr m hm, resolve_st]

/-- Both places of a shift or rotate: the accumulator and a memory operand. -/
theorem AluComputes.shiftResult {mk : Place → Instr} {acc zp zpx abs abx : Byte}
    (hforms : FormsInTables mk Place.mode (shiftRows acc zp zpx abs abx))
    (hexec : ∀ o s, exec (mk o) s = .next (modify op o (mk o) s)) :
    ShiftResult mk (shiftRows acc zp zpx abs abx) res fl := by
  have hmem : ∀ r ∈ shiftRows acc zp zpx abs abx, ∀ m, m.mode = r.mode → baseCycles (mk (.memory m)) = r.base :=
    fun _ hr _ hm => hforms.baseCycles_eq hr hm.symm
  have hacc : baseCycles (mk .accumulator) = 2 := hforms.baseCycles_eq List.mem_cons_self rfl
  refine ⟨hforms.hasForms, halu.modifyResult (fun m => hexec (.memory m)) hmem, fun s => ?_⟩
  rw [hexec, modifyA_eq]
  dsimp only
  rw [halu.result, halu.flags, hacc]

end

/-! #### ASL, LSR, ROL and ROR -/

/-- The flags of a result that drives carry, zero and negative (41_alu.md R141). -/
theorem drive_outCZN (r : Byte) (c : Bool) (p : Status) : p.drive (outCZN r c) = { zn r p with c := c } := rfl

/-- An operation whose output is a result with its zero and negative, and the carry `carry B`. -/
theorem aluComputes_of_outCZN {op : AluOp} {res : Byte → Bool → Byte} {carry : Byte → Bool}
    (halu : ∀ A B cin, alu op A B cin = outCZN (res B cin) (carry B)) :
    AluComputes op res fun M R p => { zn R p with c := carry M } :=
  ⟨fun A B cin => congrArg AluOut.r (halu A B cin), fun A B cin p => by rw [halu, drive_outCZN]⟩

theorem aluComputes_asl :
    AluComputes .asl (fun M _ => BitVec.ofNat 8 (M.toNat * 2)) fun M R p => { zn R p with c := M.getLsbD 7 } :=
  aluComputes_of_outCZN fun _ B _ => congrArg (outCZN · (B.getLsbD 7)) (byte_shiftLeft B)

theorem aluComputes_rol :
    AluComputes .rol (fun M c => BitVec.ofNat 8 (M.toNat * 2 + c.toNat)) fun M R p => { zn R p with c := M.getLsbD 7 } :=
  aluComputes_of_outCZN fun _ B cin => congrArg (outCZN · (B.getLsbD 7)) (byte_rotateLeft B cin)

theorem aluComputes_ror :
    AluComputes .ror (fun M c => BitVec.ofNat 8 (M.toNat / 2 + c.toNat * 128))
      fun M R p => { zn R p with c := M.getLsbD 0 } :=
  aluComputes_of_outCZN fun _ B cin => congrArg (outCZN · (B.getLsbD 0)) (byte_rotateRight B cin)

/-- LSR clears negative, whatever its result (43_shift_rotate.md R182). -/
theorem aluComputes_lsr :
    AluComputes .lsr (fun M _ => BitVec.ofNat 8 (M.toNat / 2))
      fun M R p => { p with c := M.getLsbD 0, z := decide (R = 0), n := false } :=
  ⟨fun _ B _ => byte_shiftRight B, fun _ B _ p => by rw [← byte_shiftRight B]; rfl⟩

theorem formsInTables_asl : FormsInTables .asl Place.mode (shiftRows 0x0A 0x06 0x16 0x0E 0x1E) :=
  ⟨by decide, fun _ => rfl, fun _ => rfl, by decide⟩

theorem formsInTables_lsr : FormsInTables .lsr Place.mode (shiftRows 0x4A 0x46 0x56 0x4E 0x5E) :=
  ⟨by decide, fun _ => rfl, fun _ => rfl, by decide⟩

theorem formsInTables_rol : FormsInTables .rol Place.mode (shiftRows 0x2A 0x26 0x36 0x2E 0x3E) :=
  ⟨by decide, fun _ => rfl, fun _ => rfl, by decide⟩

theorem formsInTables_ror : FormsInTables .ror Place.mode (shiftRows 0x6A 0x66 0x76 0x6E 0x7E) :=
  ⟨by decide, fun _ => rfl, fun _ => rfl, by decide⟩

/-- Settles O31: each is `modify` of its ALU operation, whose result and flags are the arithmetic of the shifted byte. -/
theorem shiftInstructions : Obligations.ShiftInstructions :=
  ⟨aluComputes_asl.shiftResult formsInTables_asl fun _ _ => rfl, aluComputes_lsr.shiftResult formsInTables_lsr fun _ _ => rfl,
    aluComputes_rol.shiftResult formsInTables_rol fun _ _ => rfl, aluComputes_ror.shiftResult formsInTables_ror fun _ _ => rfl⟩

end Sys2Proof.Machine

/-! ### Arithmetic and compare (44_arithmetic_compare.md) -/

namespace Sys2Proof.Machine

open Sys2Proof.Claims

/-! #### ADC and SBC -/

/-- An operation stored in the accumulator, in each of its forms: the result and the flags are those of its ALU operation. -/
theorem exec_aluToA_of_forms {mk : Source → Instr} {op : AluOp} {rows : List Row} (hforms : FormsInTables mk Source.mode rows)
    (hexec : ∀ o s, exec (mk o) s = .next (aluToA op o (mk o) s)) {r : Row} (hr : r ∈ rows) {o : Source}
    (hm : o.mode = r.mode) (s : State) :
    exec (mk o) s =
      let q := readSource o s
      let u := alu op s.a q.val s.ps.c
      .next { s with
        a := u.r, ps := s.ps.drive u, ppu := q.st.ppu, drawn := q.st.drawn, cycles := r.base + q.cross.toNat } := by
  rw [hexec, aluToA_eq, hforms.baseCycles_eq hr hm.symm]

/-- The flags of an output that drives carry and overflow, and zero and negative from its result (41_alu.md R141). -/
theorem drive_of_all_flags {o : AluOut} {c v : Bool} (hc : o.c = some c) (hz : o.z = some (decide (o.r = 0)))
    (hv : o.vf = some v) (hn : o.n = some (o.r.getLsbD 7)) (p : Status) :
    p.drive o = { zn o.r p with c := c, vf := v } := by
  rw [Status.drive, hc, hz, hv, hn]
  rfl

/-- The flags of ADC: carry is bit 8 of the sum, overflow its masked expression (41_alu.md R150). -/
theorem drive_alu_adc (A B : Byte) (cin : Bool) (p : Status) :
    p.drive (alu .adc A B cin) =
      let R := (alu .adc A B cin).r
      { zn R p with
        c := decide (256 ≤ A.toNat + B.toNat + cin.toNat), vf := decide ((A ^^^ R) &&& (B ^^^ R) &&& 0x80 ≠ 0) } :=
  drive_of_all_flags rfl (alu_z .adc A B cin) (alu_adc_vf_masked A B cin) (alu_n (by decide) A B cin) p

/-- The flags of SBC: carry is "no borrow", overflow its masked expression (41_alu.md R151). -/
theorem drive_alu_sbc (A B : Byte) (cin : Bool) (p : Status) :
    p.drive (alu .sbc A B cin) =
      let R := (alu .sbc A B cin).r
      { zn R p with
        c := decide ((0 : Int) ≤ A.toNat - B.toNat - (1 - cin.toNat))
        vf := decide ((A ^^^ B) &&& (A ^^^ R) &&& 0x80 ≠ 0) } :=
  drive_of_all_flags rfl (alu_z .sbc A B cin) (alu_sbc_vf_masked A B cin) (alu_n (by decide) A B cin) p

theorem formsInTables_adc :
    FormsInTables .adc Source.mode (aluRows 0x69 0x65 0x75 0x6D 0x7D 0x79 0x61 0x71) :=
  ⟨by decide, fun _ => rfl, fun _ => rfl, by decide⟩

theorem formsInTables_sbc :
    FormsInTables .sbc Source.mode (aluRows 0xE9 0xE5 0xF5 0xED 0xFD 0xF9 0xE1 0xF1) :=
  ⟨by decide, fun _ => rfl, fun _ => rfl, by decide⟩

/-- Settles O32: ADC is `aluToA` of the binary sum, whose flags do not read `d`. -/
theorem addWithCarryInstruction : Obligations.AddWithCarryInstruction := by
  refine ⟨formsInTables_adc.hasForms, fun r hr o s hm => ?_⟩
  rw [exec_aluToA_of_forms (op := .adc) formsInTables_adc (fun _ _ => rfl) hr hm]
  dsimp only
  rw [drive_alu_adc]
  rfl

/-- Settles O33: SBC is `aluToA` of the binary difference, whose flags do not read `d`. -/
theorem subtractWithBorrowInstruction : Obligations.SubtractWithBorrowInstruction := by
  refine ⟨formsInTables_sbc.hasForms, fun r hr o s hm => ?_⟩
  rw [exec_aluToA_of_forms (op := .sbc) formsInTables_sbc (fun _ _ => rfl) hr hm]
  dsimp only
  rw [drive_alu_sbc]
  rfl

/-! #### CMP, CPX and CPY -/

/-- The flags of a compare: carry is the unsigned comparison, zero and negative are those of the difference (41_alu.md R153). -/
theorem drive_alu_cmp (A B : Byte) (cin : Bool) (p : Status) :
    p.drive (alu .cmp A B cin) = { zn (A - B) p with c := decide (B.toNat ≤ A.toNat) } := drive_outCZN _ _ p

/-- An instruction that is `aluTest` of CMP and the register `reg` is the compare of that register, in each of its forms. -/
theorem compareResult_of_forms {mk : Source → Instr} {reg : State → Byte} {rows : List Row}
    (hforms : FormsInTables mk Source.mode rows)
    (hexec : ∀ o s, exec (mk o) s = .next (aluTest .cmp (reg s) o (mk o) s)) : CompareResult mk reg rows := by
  refine ⟨hforms.hasForms, fun r hr o s hm => ?_⟩
  rw [hexec, aluTest_eq]
  dsimp only
  rw [drive_alu_cmp, hforms.baseCycles_eq hr hm.symm]

theorem formsInTables_cmp :
    FormsInTables .cmp Source.mode (aluRows 0xC9 0xC5 0xD5 0xCD 0xDD 0xD9 0xC1 0xD1) :=
  ⟨by decide, fun _ => rfl, fun _ => rfl, by decide⟩

theorem formsInTables_cpx :
    FormsInTables .cpx Source.mode [⟨.immediate, 0xE0, 2⟩, ⟨.zeroPage, 0xE4, 3⟩, ⟨.absolute, 0xEC, 4⟩] :=
  ⟨by decide, fun _ => rfl, fun _ => rfl, by decide⟩

theorem formsInTables_cpy :
    FormsInTables .cpy Source.mode [⟨.immediate, 0xC0, 2⟩, ⟨.zeroPage, 0xC4, 3⟩, ⟨.absolute, 0xCC, 4⟩] :=
  ⟨by decide, fun _ => rfl, fun _ => rfl, by decide⟩

/-- An operand crosses a page only in a mode that indexes a full address (40_addressing.md R124). -/
theorem readSource_cross_of_not_indexed {o : Source} (h : o.mode ∉ [Mode.absoluteX, .absoluteY, .zpIndirectY]) (s : State) :
    (readSource o s).cross = false := by
  cases o with
  | immediate b1 => rfl
  | memory m => exact resolve_cross_of_not_indexed h s

/-- CPX and CPY have the same three modes, and none of them indexes (44_arithmetic_compare.md R193, R194). -/
theorem mode_not_indexed_of_wf {o : Source} (h : (Instr.cpx o).wf = true ∨ (Instr.cpy o).wf = true) :
    o.mode ∉ [Mode.absoluteX, .absoluteY, .zpIndirectY] := by
  have hmode : o.mode ∈ [Mode.immediate, .zeroPage, .absolute] := List.contains_iff_mem.mp (or_self_iff.mp h)
  have hrow : ∀ m ∈ [Mode.immediate, .zeroPage, .absolute], m ∉ [Mode.absoluteX, .absoluteY, .zpIndirectY] := by decide
  exact hrow o.mode hmode

/-- Settles O34: each is a compare of its register, and the modes of CPX and CPY do not index. -/
theorem compareInstructions : Obligations.CompareInstructions :=
  ⟨compareResult_of_forms formsInTables_cmp fun _ _ => rfl, compareResult_of_forms formsInTables_cpx fun _ _ => rfl,
    compareResult_of_forms formsInTables_cpy fun _ _ => rfl,
    fun _ s h => readSource_cross_of_not_indexed (mode_not_indexed_of_wf h) s⟩

end Sys2Proof.Machine

/-! ### Loads, stores, transfers, increments and decrements (45_load_store_transfer_incdec.md) -/

namespace Sys2Proof.Machine

open Sys2Proof.Claims

/-! #### LDA, LDX and LDY -/

theorem formsInTables_lda :
    FormsInTables .lda Source.mode (aluRows 0xA9 0xA5 0xB5 0xAD 0xBD 0xB9 0xA1 0xB1) :=
  ⟨by decide, fun _ => rfl, fun _ => rfl, by decide⟩

theorem formsInTables_ldx :
    FormsInTables .ldx Source.mode [⟨.immediate, 0xA2, 2⟩, ⟨.zeroPage, 0xA6, 3⟩, ⟨.zeroPageY, 0xB6, 4⟩, ⟨.absolute, 0xAE, 4⟩,
      ⟨.absoluteY, 0xBE, 4⟩] :=
  ⟨by decide, fun _ => rfl, fun _ => rfl, by decide⟩

theorem formsInTables_ldy :
    FormsInTables .ldy Source.mode [⟨.immediate, 0xA0, 2⟩, ⟨.zeroPage, 0xA4, 3⟩, ⟨.zeroPageX, 0xB4, 4⟩, ⟨.absolute, 0xAC, 4⟩,
      ⟨.absoluteX, 0xBC, 4⟩] :=
  ⟨by decide, fun _ => rfl, fun _ => rfl, by decide⟩

/-- Settles O35: each is `load` of its register, with the base cycles of its form; PASS drives zero and negative only. -/
theorem loadInstructions : Obligations.LoadInstructions := by
  refine ⟨⟨formsInTables_lda.hasForms, fun r hr o s hm => ?lda⟩, ⟨formsInTables_ldx.hasForms, fun r hr o s hm => ?ldx⟩,
    ⟨formsInTables_ldy.hasForms, fun r hr o s hm => ?ldy⟩⟩
  case lda =>
    rw [← formsInTables_lda.baseCycles_eq hr hm.symm]
    exact congrArg Host.Outcome.next (loadA_eq o (.lda o) s)
  case ldx =>
    rw [← formsInTables_ldx.baseCycles_eq hr hm.symm]
    exact congrArg Host.Outcome.next (loadX_eq o (.ldx o) s)
  case ldy =>
    rw [← formsInTables_ldy.baseCycles_eq hr hm.symm]
    exact congrArg Host.Outcome.next (loadY_eq o (.ldy o) s)

/-! #### STA, STX and STY -/

/-- An instruction that is `store` of the register `reg` writes that register to `ea` once, in each of its forms. -/
theorem storeResult_of_forms {mk : MemMode → Instr} {reg : State → Byte} {rows : List Row}
    (hforms : FormsInTables mk MemMode.mode rows) (hexec : ∀ m s, exec (mk m) s = .next (store (reg s) m (mk m) s)) :
    StoreResult mk reg rows := by
  refine ⟨hforms.hasForms, fun r hr m s hm => ?_⟩
  rw [hexec, store_eq]
  dsimp only
  rw [hforms.baseCycles_eq hr hm.symm, resolve_st]

theorem formsInTables_sta :
    FormsInTables .sta MemMode.mode [⟨.zeroPage, 0x85, 3⟩, ⟨.zeroPageX, 0x95, 4⟩, ⟨.absolute, 0x8D, 4⟩, ⟨.absoluteX, 0x9D, 5⟩,
      ⟨.absoluteY, 0x99, 5⟩, ⟨.zpXIndirect, 0x81, 6⟩, ⟨.zpIndirectY, 0x91, 6⟩] :=
  ⟨by decide, fun _ => rfl, fun _ => rfl, by decide⟩

theorem formsInTables_stx :
    FormsInTables .stx MemMode.mode [⟨.zeroPage, 0x86, 3⟩, ⟨.zeroPageY, 0x96, 4⟩, ⟨.absolute, 0x8E, 4⟩] :=
  ⟨by decide, fun _ => rfl, fun _ => rfl, by decide⟩

theorem formsInTables_sty :
    FormsInTables .sty MemMode.mode [⟨.zeroPage, 0x84, 3⟩, ⟨.zeroPageX, 0x94, 4⟩, ⟨.absolute, 0x8C, 4⟩] :=
  ⟨by decide, fun _ => rfl, fun _ => rfl, by decide⟩

/-- Settles O36: each is `store` of its register. -/
theorem storeInstructions : Obligations.StoreInstructions :=
  ⟨storeResult_of_forms formsInTables_sta fun _ _ => rfl, storeResult_of_forms formsInTables_stx fun _ _ => rfl,
    storeResult_of_forms formsInTables_sty fun _ _ => rfl⟩

/-! #### INC and DEC -/

/-- An operation whose output is a result of its operand with its zero and negative. -/
theorem aluComputes_of_outZN {op : AluOp} {res : Byte → Byte} (halu : ∀ A B cin, alu op A B cin = outZN (res B)) :
    AluComputes op (fun M _ => res M) fun _ R p => zn R p :=
  ⟨fun A B cin => congrArg AluOut.r (halu A B cin), fun A B cin p => by rw [halu, drive_outZN]⟩

theorem aluComputes_inc : AluComputes .inc (fun M _ => BitVec.ofNat 8 (M.toNat + 1)) fun _ R p => zn R p :=
  aluComputes_of_outZN fun _ B _ => congrArg outZN (byte_succ B)

theorem aluComputes_dec : AluComputes .dec (fun M _ => BitVec.ofNat 8 (M.toNat + 255)) fun _ R p => zn R p :=
  aluComputes_of_outZN fun _ B _ => congrArg outZN (byte_pred B)

theorem formsInTables_inc :
    FormsInTables .inc MemMode.mode [⟨.zeroPage, 0xE6, 5⟩, ⟨.zeroPageX, 0xF6, 6⟩, ⟨.absolute, 0xEE, 6⟩, ⟨.absoluteX, 0xFE, 7⟩] :=
  ⟨by decide, fun _ => rfl, fun _ => rfl, by decide⟩

theorem formsInTables_dec :
    FormsInTables .dec MemMode.mode [⟨.zeroPage, 0xC6, 5⟩, ⟨.zeroPageX, 0xD6, 6⟩, ⟨.absolute, 0xCE, 6⟩, ⟨.absoluteX, 0xDE, 7⟩] :=
  ⟨by decide, fun _ => rfl, fun _ => rfl, by decide⟩

/-- Settles O38: each is `modifyMem` of its ALU operation, whose result is the operand plus or minus one. -/
theorem memoryIncrementDecrement : Obligations.MemoryIncrementDecrement :=
  ⟨formsInTables_inc.hasForms, formsInTables_dec.hasForms,
    aluComputes_inc.modifyResult (fun _ _ => rfl) fun _ hr _ hm => formsInTables_inc.baseCycles_eq hr hm.symm,
    aluComputes_dec.modifyResult (fun _ _ => rfl) fun _ hr _ hm => formsInTables_dec.baseCycles_eq hr hm.symm⟩

/-! #### TAX, TAY, TXA, TYA, TSX and TXS -/

/-- The end of a transfer of `r`: `SetZN(r)` and the base cycles, nothing else (00_scope.md R13). -/
theorem finish_setZN_eq (i : Instr) (r : Byte) (s : State) :
    finish i false (setZN r s) = { s with ps := zn r s.ps, cycles := baseCycles i } := rfl

/-- Settles O37: five transfers write a register and end in `SetZN`; TXS, the sixth, drives no flag. -/
theorem transferInstructions : Obligations.TransferInstructions :=
  ⟨rfl, rfl, rfl, rfl, rfl, rfl, fun s =>
    ⟨congrArg Host.Outcome.next (finish_setZN_eq .tax s.a (s.setX s.a)),
      congrArg Host.Outcome.next (finish_setZN_eq .tay s.a (s.setY s.a)),
      congrArg Host.Outcome.next (finish_setZN_eq .txa s.x (s.setA s.x)),
      congrArg Host.Outcome.next (finish_setZN_eq .tya s.y (s.setA s.y)),
      congrArg Host.Outcome.next (finish_setZN_eq .tsx s.s (s.setX s.s)), rfl⟩⟩

/-! #### INX, INY, DEX and DEY -/

/-- An ALU operation of a register: its result in the register that `set` writes, its flags, and the base cycles. -/
theorem AluComputes.aluToReg_eq {op : AluOp} {res : Byte → Bool → Byte} {fl : Byte → Byte → Status → Status}
    (halu : AluComputes op res fl) {set : State → Byte → State} (hset : ∀ s v, (set s v).ps = s.ps) (reg : Byte) (i : Instr)
    (s : State) :
    aluToReg op reg set i s =
      let R := res reg s.ps.c
      { set s R with ps := fl reg R s.ps, cycles := baseCycles i } := by
  simp only [aluToReg, driveFlags, hset, halu.result, halu.flags]
  rfl

/-- Settles O39: each is `aluToReg` of the operation INC or DEC on its register. -/
theorem registerIncrementDecrement : Obligations.RegisterIncrementDecrement :=
  ⟨rfl, rfl, rfl, rfl, fun s =>
    ⟨congrArg Host.Outcome.next (aluComputes_inc.aluToReg_eq State.setX_ps s.x .inx s),
      congrArg Host.Outcome.next (aluComputes_inc.aluToReg_eq State.setY_ps s.y .iny s),
      congrArg Host.Outcome.next (aluComputes_dec.aluToReg_eq State.setX_ps s.x .dex s),
      congrArg Host.Outcome.next (aluComputes_dec.aluToReg_eq State.setY_ps s.y .dey s)⟩⟩

end Sys2Proof.Machine

/-! ### Branches (46_branch.md) -/

namespace Sys2Proof.Machine

open Sys2Proof.Claims

/-- The target is `pc_next` plus the signed displacement, modulo 65536 (40_addressing.md R123). -/
theorem branchTarget_eq (b1 : Byte) (s : State) : branchTarget b1 s = BitVec.ofInt 16 (s.pc.toNat + signed b1) :=
  displaced_eq s.pc b1

theorem crosses_eq_pageDiffers (base ea : Word) : crosses base ea = pageDiffers ea base := crosses_eq base ea

theorem branch_taken_eq (b1 : Byte) (i : Instr) (s : State) :
    branch true b1 i s =
      let target := BitVec.ofInt 16 (s.pc.toNat + signed b1)
      { s with pc := target, cycles := baseCycles i + 1 + (pageDiffers target (s.pc - 1)).toNat } := by
  simp only [branch_eq, if_true, branchTarget_eq, crosses_eq_pageDiffers, Nat.add_assoc]

theorem branch_notTaken_eq (b1 : Byte) (i : Instr) (s : State) : branch false b1 i s = { s with cycles := baseCycles i } :=
  branch_eq false b1 i s

/-- An instruction of two bytes and 2 base cycles that is `branch` on `cond` branches as the rules say (46_branch.md R230, R239). -/
theorem branchResult_of_exec {mk : Byte → Instr} {op : Byte} {cond : State → Bool} (hbytes : ∀ b1, encode (mk b1) = [op, b1])
    (hbase : ∀ b1, baseCycles (mk b1) = 2) (hexec : ∀ b1 s, exec (mk b1) s = .next (branch (cond s) b1 (mk b1) s)) :
    BranchResult mk op cond := by
  refine ⟨hbytes, fun b1 s => ⟨fun htaken => ?taken, fun hnot => ?notTaken⟩⟩
  case taken => rw [hexec, htaken, branch_taken_eq, hbase]
  case notTaken => rw [hexec, hnot, branch_notTaken_eq, hbase]

/-- Settles O40: each is `branch` on its flag or the flag's complement. -/
theorem branchInstructions : Obligations.BranchInstructions := by
  refine ⟨?bcc, ?bcs, ?beq, ?bmi, ?bne, ?bpl, ?bvc, ?bvs⟩
  all_goals exact branchResult_of_exec (fun _ => rfl) (fun _ => rfl) fun _ _ => rfl

end Sys2Proof.Machine

/-! ### The outputs that no operation reads (70_reset_and_hazards.md R365, R370) -/

namespace Sys2Proof.Machine

/-- The two states differ at most in the outputs, the cycle count and the byte handed to a caller (70_reset_and_hazards.md
R370). -/
def SameButOutputs (s t : State) : Prop := t = s.withOutputs t.cycles t.portData

section
variable (s : State) (n : Nat) (b : Byte)

theorem readSource_withOutputs (o : Source) : readSource o (s.withOutputs n b) =
    ⟨(readSource o s).val, (readSource o s).cross, (readSource o s).st.withOutputs n b⟩ := by
  cases o with
  | immediate b1 => rfl
  | memory m =>
    obtain ⟨hea, hcross⟩ := resolve_withOutputs s n b m
    simp only [readSource_memory, hea, hcross, memRead_withOutputs]

theorem resolveTarget_withOutputs (t : Target) : resolveTarget t (s.withOutputs n b) =
    ((resolveTarget t s).1, (resolveTarget t s).2.withOutputs n b) := by
  cases t with
  | absolute w => rfl
  | indirect ptr => simp only [resolveTarget, memRead_withOutputs]

theorem aluToA_sameButOutputs (op : AluOp) (o : Source) (i : Instr) :
    SameButOutputs (aluToA op o i s) (aluToA op o i (s.withOutputs n b)) := by
  simp only [aluToA, readSource_withOutputs]
  rfl

theorem aluTest_sameButOutputs (op : AluOp) (reg : Byte) (o : Source) (i : Instr) :
    SameButOutputs (aluTest op reg o i s) (aluTest op reg o i (s.withOutputs n b)) := by
  simp only [aluTest, readSource_withOutputs]
  rfl

/-- A load, into any register that leaves the outputs alone. -/
theorem load_sameButOutputs {set : State → Byte → State}
    (hset : ∀ u v, set (u.withOutputs n b) v = (set u v).withOutputs n b) (o : Source) (i : Instr) :
    SameButOutputs (load set o i s) (load set o i (s.withOutputs n b)) := by
  simp only [load, readSource_withOutputs, hset]
  rfl

theorem store_sameButOutputs (v : Byte) (m : MemMode) (i : Instr) :
    SameButOutputs (store v m i s) (store v m i (s.withOutputs n b)) := by
  obtain ⟨hea, hcross⟩ := resolve_withOutputs s n b m
  simp only [store, resolve_st, hea, hcross, memWrite_withOutputs]
  rfl

theorem modifyMem_sameButOutputs (op : AluOp) (m : MemMode) (i : Instr) :
    SameButOutputs (modifyMem op m i s) (modifyMem op m i (s.withOutputs n b)) := by
  obtain ⟨hea, hcross⟩ := resolve_withOutputs s n b m
  simp only [modifyMem, resolve_st, hea, hcross, memRead_withOutputs, driveFlags, memWrite_setPs, memWrite_withOutputs]
  rfl

theorem modify_sameButOutputs (op : AluOp) (o : Place) (i : Instr) :
    SameButOutputs (modify op o i s) (modify op o i (s.withOutputs n b)) := by
  cases o with
  | accumulator => rfl
  | memory m => exact modifyMem_sameButOutputs s n b op m i

theorem takeInterrupt_sameButOutputs (k : IntType) :
    SameButOutputs (takeInterrupt k s) (takeInterrupt k (s.withOutputs n b)) := by
  have hm : masked k (s.withOutputs n b) = masked k s := rfl
  cases h : masked k s with
  | true => rw [takeInterrupt_masked h, takeInterrupt_masked (hm.trans h)]; rfl
  | false => rw [takeInterrupt_taken h, takeInterrupt_taken (hm.trans h)]; rfl

/-- No operation reads the outputs. -/
theorem exec_sameButOutputs (i : Instr) : ∃ t u, exec i s = .next t ∧ exec i (s.withOutputs n b) = .next u ∧
    SameButOutputs t u := by
  cases i with
  | ora o | and o | eor o | adc o | sbc o => exact ⟨_, _, rfl, rfl, aluToA_sameButOutputs s n b _ o _⟩
  | cmp o | cpx o | cpy o => exact ⟨_, _, rfl, rfl, aluTest_sameButOutputs s n b _ _ o _⟩
  | bit m => exact ⟨_, _, rfl, rfl, aluTest_sameButOutputs s n b _ _ (.memory m) _⟩
  | lda o | ldx o | ldy o => exact ⟨_, _, rfl, rfl, load_sameButOutputs s n b (fun _ _ => rfl) o _⟩
  | sta m | stx m | sty m => exact ⟨_, _, rfl, rfl, store_sameButOutputs s n b _ m _⟩
  | inc m | dec m => exact ⟨_, _, rfl, rfl, modifyMem_sameButOutputs s n b _ m _⟩
  | asl o | lsr o | rol o | ror o => exact ⟨_, _, rfl, rfl, modify_sameButOutputs s n b _ o _⟩
  | bcc d | bcs d | beq d | bmi d | bne d | bpl d | bvc d | bvs d =>
    exact ⟨_, _, rfl, rfl, by rw [branch_eq, branch_eq]; rfl⟩
  | pha | php => exact ⟨_, _, rfl, rfl, by rw [push_eq, push_eq]; rfl⟩
  | pla | plp => exact ⟨_, _, rfl, rfl, by rw [pull_eq, pull_eq]; rfl⟩
  | jmp t => exact ⟨_, _, rfl, rfl, by rw [resolveTarget_withOutputs]; rfl⟩
  | jsr w => exact ⟨_, _, rfl, rfl, by simp only [push_eq]; rfl⟩
  | rts => exact ⟨_, _, rfl, rfl, by rw [rts_eq, rts_eq]; rfl⟩
  | rti => exact ⟨_, _, rfl, rfl, by rw [returnFromInterrupt_eq, returnFromInterrupt_eq]; rfl⟩
  | brk => exact ⟨_, _, rfl, rfl, takeInterrupt_sameButOutputs (s.setPc (s.pc + 1)) n b .brk⟩
  | interruptBrk | interruptIrq | interruptReset | interruptNmi =>
    exact ⟨_, _, rfl, rfl, takeInterrupt_sameButOutputs s n b _⟩
  | _ => exact ⟨_, _, rfl, rfl, rfl⟩

theorem cpuStep_sameButOutputs : ∃ t u, cpuStep s = .next t ∧ cpuStep (s.withOutputs n b) = .next u ∧
    SameButOutputs t u := by
  simp only [cpuStep, fetch_withOutputs]
  exact exec_sameButOutputs (fetch s).2 n b (fetch s).1

theorem callNoRow_sameButOutputs (c : Turn) : SameButOutputs (callNoRow c s) (callNoRow c (s.withOutputs n b)) := by
  cases c with
  | portRead off => rw [callNoRow, callNoRow, portRead_withOutputs]; rfl
  | portWrite off d => rw [callNoRow, callNoRow, portWrite_withOutputs]; rfl
  | powerResetState isReset => cases isReset <;> rfl
  | _ => rfl

theorem runCall_sameButOutputs (c : Turn) : ∃ t u, runCall c s = .next t ∧ runCall c (s.withOutputs n b) = .next u ∧
    SameButOutputs t u := by
  cases hc : decodeCall c s.ppu.w with
  | some i =>
    rw [runCall_of_row hc, runCall_of_row (s := s.withOutputs n b) hc]
    exact exec_sameButOutputs s n b i
  | none =>
    rw [runCall_of_noRow hc, runCall_of_noRow (s := s.withOutputs n b) hc]
    exact ⟨_, _, rfl, rfl, callNoRow_sameButOutputs s n b c⟩

theorem step_sameButOutputs : ∃ t u, step s = .next t ∧ step (s.withOutputs n b) = .next u ∧ SameButOutputs t u := by
  by_cases hcpu : s.turns = [] ∨ s.turns.head? = some .cpu
  · rw [step_of_cpu hcpu, step_of_cpu (s := s.withOutputs n b) hcpu]
    exact cpuStep_sameButOutputs (s.setTurns s.turns.tail) n b
  · cases hs : s.turns with
    | nil => exact absurd (.inl hs) hcpu
    | cons c ts =>
      have hc : c ≠ .cpu := by
        rintro rfl
        exact hcpu (.inr (by rw [hs]; rfl))
      rw [step_of_call hs hc, step_of_call (s := s.withOutputs n b) hs hc]
      exact runCall_sameButOutputs (s.setTurns ts) n b c

end

/-- Settles O12: a step never reads the outputs, so it gives the rest of the state the same whatever they hold. -/
theorem cycleCountsAreOutputsOnly : Obligations.CycleCountsAreOutputsOnly := by
  intro s n b
  obtain ⟨t, u, ht, hu, htu⟩ := step_sameButOutputs s n b
  refine ⟨t, u, ht, hu, ?_⟩
  rw [htu]
  rfl

end Sys2Proof.Machine

/-! ### The stack, the flags, control transfer and interrupts (47_stack_flags.md, 48_control.md, 60_exceptions.md) -/

namespace Sys2Proof.Machine

open Sys2Proof.Claims

/-! #### The words of the claims as the model's -/

theorem highByte_eq_hi (w : Word) : highByte w = hi w := by
  rw [highByte, ← hi_toNat, BitVec.ofNat_toNat, BitVec.setWidth_eq]

theorem lowByte_eq_lo (w : Word) : lowByte w = lo w := rfl

theorem addr16_eq_word (l h : Byte) : addr16 l h = word h l := (word_eq h l).symm

/-! #### Pushes and pulls in a row -/

theorem byte_sub_two (b : Byte) : b - 2 = b - 1 - 1 := (BitVec.sub_sub b 1 1).symm

theorem byte_sub_three (b : Byte) : b - 3 = b - 1 - 1 - 1 := by
  rw [BitVec.sub_sub, BitVec.sub_sub]
  rfl

theorem byte_add_two (b : Byte) : b + 2 = b + 1 + 1 := (BitVec.add_assoc b 1 1).symm

theorem byte_add_three (b : Byte) : b + 3 = b + 1 + 1 + 1 := by
  rw [BitVec.add_assoc, BitVec.add_assoc]
  rfl

theorem push_push_eq (v u : Byte) (s : State) : push u (push v s) =
    { s with cpuMem := (s.cpuMem.set (stackCell s.s) v).set (stackCell (s.s - 1)) u, s := s.s - 2 } := by
  rw [push_eq, push_eq, byte_sub_two]
  rfl

theorem frameMem_eq_framePushed (k : IntType) (s : State) : frameMem k s = framePushed s s.pc (k == .brk) := by
  rw [framePushed, highByte_eq_hi, lowByte_eq_lo, byte_sub_two, ← pack_eq_statusByte]
  rfl

theorem stackCell_injective : Function.Injective stackCell :=
  fun _ _ h => BitVec.eq_of_toNat_eq (Nat.add_left_cancel h)

theorem stackCell_ne_of_sub {b d : Byte} (hd : d ≠ 0) : stackCell b ≠ stackCell (b - d) :=
  fun h => hd (sub_eq_self.mp (stackCell_injective h).symm)

/-! #### PHA, PHP, PLA and PLP -/

theorem exec_pha_eq (s : State) :
    exec .pha s = .next { s with cpuMem := s.cpuMem.set (stackCell s.s) s.a, s := s.s - 1, cycles := 3 } :=
  congrArg (fun t => Host.Outcome.next (finish .pha false t)) (push_eq s.a s)

/-- PHP pushes the status as it is, with the live break flag (47_stack_flags.md R251). -/
theorem exec_php_eq (s : State) : exec .php s = .next
    { s with cpuMem := s.cpuMem.set (stackCell s.s) (statusByte s.ps s.ps.b), s := s.s - 1, cycles := 3 } := by
  rw [← pack_eq_statusByte]
  exact congrArg (fun t => Host.Outcome.next (finish .php false t)) (push_eq (pack s.ps s.ps.b) s)

theorem exec_pla_eq (s : State) :
    let top := s.cpuMem.get (stackCell (s.s + 1))
    exec .pla s = .next { s with a := top, s := s.s + 1, ps := zn top s.ps, cycles := 4 } :=
  congrArg (fun p : Byte × State => Host.Outcome.next (finish .pla false (setZN p.1 (p.2.setA p.1)))) (pull_eq s)

/-- PLP leaves break clear, whatever bit 4 of the byte is (47_stack_flags.md R253). -/
theorem exec_plp_eq (s : State) :
    exec .plp s = .next
      { s with s := s.s + 1, ps := flagsOf (s.cpuMem.get (stackCell (s.s + 1))) false, cycles := 4 } :=
  congrArg (fun p : Byte × State => Host.Outcome.next (finish .plp false (p.2.setPs (unpack p.1 false)))) (pull_eq s)

/-- Settles O41: each is one push or one pull, and what its rule does with the byte. -/
theorem stackInstructions : Obligations.StackInstructions :=
  ⟨rfl, rfl, rfl, rfl, fun s => ⟨exec_pha_eq s, exec_php_eq s, exec_pla_eq s, exec_plp_eq s⟩⟩

/-! #### The flag instructions and NOP -/

/-- Settles O42: each writes one flag of the status, and NOP none. -/
theorem flagInstructionsAndNop : Obligations.FlagInstructionsAndNop :=
  ⟨rfl, rfl, rfl, rfl, rfl, rfl, rfl, rfl, fun _ => ⟨rfl, rfl, rfl, rfl, rfl, rfl, rfl, rfl⟩⟩

/-! #### JMP, JSR, RTS and RTI -/

/-- The bytes of an instruction whose operand is an address, low byte first (20_memory.md R52). -/
theorem encode_of_address {i : Instr} {op b1 b2 : Byte} (hop : i.opcode = some op)
    (hbytes : i.operandBytes = [lo (word b2 b1), hi (word b2 b1)]) : encode i = [op, b1, b2] := by
  rw [encode_of_opcode hop, hbytes, lo_word, hi_word]

/-- Settles O43: the indirect form reads the two bytes that `jmp_eq` names, whose addresses as numbers are `word_eq` and
`pointerHigh_eq`. -/
theorem jumpInstruction : Obligations.JumpInstruction := by
  intro b1 b2 s
  refine ⟨encode_of_address rfl rfl, encode_of_address rfl rfl, ?absolute, ?indirect⟩
  case absolute =>
    rw [addr16_eq_word]
    rfl
  case indirect =>
    simp only [addr16_eq_word, ← pointerHigh_eq]
    exact congrArg Host.Outcome.next (jmp_eq (.indirect (word b2 b1)) (.jmp (.indirect (word b2 b1))) s)

theorem exec_jsr_eq (w : Word) (s : State) : exec (.jsr w) s = .next
    { s with
      cpuMem := (s.cpuMem.set (stackCell s.s) (hi (s.pc - 1))).set (stackCell (s.s - 1)) (lo (s.pc - 1))
      s := s.s - 2, pc := w, cycles := 6 } :=
  congrArg (fun t : State => Host.Outcome.next (finish (.jsr w) false (t.setPc w))) (push_push_eq _ _ s)

theorem exec_rts_eq (s : State) : exec .rts s = .next
    { s with
      s := s.s + 2
      pc := word (s.cpuMem.get (stackCell (s.s + 2))) (s.cpuMem.get (stackCell (s.s + 1))) + 1
      cycles := 6 } := by
  rw [byte_add_two]
  exact congrArg Host.Outcome.next (rts_eq .rts s)

theorem exec_rti_eq (s : State) : exec .rti s = .next
    { s with
      s := s.s + 3, ps := unpack (s.cpuMem.get (stackCell (s.s + 1))) true
      pc := word (s.cpuMem.get (stackCell (s.s + 3))) (s.cpuMem.get (stackCell (s.s + 2)))
      cycles := 6 } := by
  rw [byte_add_three, byte_add_two]
  exact congrArg (fun t => Host.Outcome.next (finish .rti false t)) (returnFromInterrupt_eq s)

/-- Settles O44: two pushes, two pulls, and the return from an interrupt. -/
theorem subroutineAndInterruptReturn : Obligations.SubroutineAndInterruptReturn := by
  refine ⟨rfl, rfl, fun b1 b2 s => ⟨encode_of_address rfl rfl, ?jsr, ?rts, ?rti⟩⟩
  case jsr =>
    rw [addr16_eq_word, highByte_eq_hi, lowByte_eq_lo]
    exact exec_jsr_eq (word b2 b1) s
  case rts =>
    rw [addr16_eq_word]
    exact exec_rts_eq s
  case rti =>
    rw [addr16_eq_word]
    exact exec_rti_eq s

/-! #### BRK and the interrupt requests -/

/-- An interrupt that is taken, in the words of the claims. -/
theorem takeInterrupt_taken_eq {k : IntType} {s : State} (h : masked k s = false) :
    takeInterrupt k s =
      { s with
        cpuMem := framePushed s s.pc (k == .brk), s := s.s - 3, ps := { s.ps with i := true }
        pc := addr16 (s.cpuMem.get (vector k).toNat) (s.cpuMem.get ((vector k).toNat + 1)), cycles := 7 } := by
  rw [takeInterrupt_taken h, frameMem_eq_framePushed, byte_sub_three, addr16_eq_word]

/-- The gate is open when `i` is clear (60_exceptions.md R322). -/
theorem masked_of_i_clear {s : State} (h : s.ps.i = false) (k : IntType) : masked k s = false := by
  rw [masked, h, Bool.false_and]

/-- The gate is never closed to an NMI (60_exceptions.md R322). -/
theorem masked_nmi (s : State) : masked .nmi s = false := Bool.and_false s.ps.i

/-- Settles O45: BRK is the interrupt sequence at `P0 + 2`, taken or masked. -/
theorem breakInstruction : Obligations.BreakInstruction := by
  refine ⟨rfl, fun s => ⟨fun hi => ?taken, fun hi => ?masked⟩⟩
  case taken =>
    exact congrArg Host.Outcome.next (takeInterrupt_taken_eq (masked_of_i_clear (s := s.setPc (s.pc + 1)) hi .brk))
  case masked =>
    have hm : masked .brk (s.setPc (s.pc + 1)) = true := by rw [masked, State.setPc_ps, hi]; rfl
    exact congrArg Host.Outcome.next (takeInterrupt_masked hm)

/-- An operation that is the interrupt sequence of the type `k`: masked, and taken. -/
theorem exec_request_eq {k : IntType} {i : Instr} (hexec : ∀ s, exec i s = .next (takeInterrupt k s)) (s : State) :
    ((s.ps.i && k != .nmi) = true → exec i s = .next { s with cycles := 0 }) ∧
    ((s.ps.i && k != .nmi) = false → exec i s = .next
      { s with
        cpuMem := framePushed s s.pc (k == .brk), s := s.s - 3, ps := { s.ps with i := true }
        pc := addr16 (s.cpuMem.get (vector k).toNat) (s.cpuMem.get ((vector k).toNat + 1)), cycles := 7 }) := by
  rw [hexec]
  exact ⟨fun h => congrArg _ (takeInterrupt_masked h), fun h => congrArg _ (takeInterrupt_taken_eq h)⟩

/-- Settles O47: each request is the interrupt sequence of its type. -/
theorem interruptRequests : Obligations.InterruptRequests := by
  intro p hp s
  simp only [List.mem_cons, List.not_mem_nil, or_false] at hp
  obtain rfl | rfl | rfl | rfl := hp
  · exact exec_request_eq (k := .brk) (fun _ => rfl) s
  · exact exec_request_eq (k := .irq) (fun _ => rfl) s
  · exact exec_request_eq (k := .reset) (fun _ => rfl) s
  · exact exec_request_eq (k := .nmi) (fun _ => rfl) s

/-! #### Round trips -/

theorem pla_after_pha {s : State} (hs : s.wf = true) (p : Word) : ∃ t, exec .pha s = .next t ∧ ∀ a',
    ∃ u, exec .pla { t with pc := p, a := a' } = .next u ∧ u.a = s.a ∧ u.s = s.s := by
  obtain ⟨hcpu, -⟩ := (wf_iff s).mp hs
  have hsp := BitVec.sub_add_cancel s.s 1
  refine ⟨_, exec_pha_eq s, fun a' => ⟨_, exec_pla_eq _, ?_, hsp⟩⟩
  dsimp only
  rw [hsp, Memory.get_set_same hcpu]

theorem plp_after_php {s : State} (hs : s.wf = true) (p : Word) : ∃ t, exec .php s = .next t ∧
    ∃ u, exec .plp { t with pc := p } = .next u ∧ u.ps = { s.ps with b := false } ∧ u.s = s.s := by
  obtain ⟨hcpu, -⟩ := (wf_iff s).mp hs
  have hsp := BitVec.sub_add_cancel s.s 1
  refine ⟨_, exec_php_eq s, _, exec_plp_eq _, ?_, hsp⟩
  dsimp only
  rw [hsp, Memory.get_set_same hcpu, ← pack_eq_statusByte]
  exact (unpack_pack s.ps s.ps.b false).trans (by rw [Bool.and_false])

theorem rts_after_jsr {s : State} (hs : s.wf = true) (p w : Word) : ∃ t, exec (.jsr w) s = .next t ∧
    ∃ u, exec .rts { t with pc := p } = .next u ∧ u.pc = s.pc ∧ u.s = s.s := by
  obtain ⟨hcpu, -⟩ := (wf_iff s).mp hs
  have hsp : s.s - 2 + 2 = s.s := BitVec.sub_add_cancel s.s 2
  have hsp1 : s.s - 2 + 1 = s.s - 1 := by rw [byte_sub_two, BitVec.sub_add_cancel]
  refine ⟨_, exec_jsr_eq w s, _, exec_rts_eq _, ?_, hsp⟩
  dsimp only
  rw [hsp, hsp1, Memory.get_set_same (Memory.wf_set hcpu _ _), Memory.get_set_other _ _ (stackCell_ne_of_sub (by decide)),
    Memory.get_set_same hcpu, word_hi_lo, BitVec.sub_add_cancel]

/-- The three cells of an interrupt frame hold what was pushed (60_exceptions.md R324). -/
theorem framePushed_get {s : State} (hs : s.wf = true) (pc : Word) (b : Bool) :
    (framePushed s pc b).get (stackCell s.s) = hi pc ∧ (framePushed s pc b).get (stackCell (s.s - 1)) = lo pc ∧
    (framePushed s pc b).get (stackCell (s.s - 2)) = pack s.ps b := by
  obtain ⟨hcpu, -⟩ := (wf_iff s).mp hs
  have h01 : stackCell s.s ≠ stackCell (s.s - 1) := stackCell_ne_of_sub (by decide)
  have h02 : stackCell s.s ≠ stackCell (s.s - 2) := stackCell_ne_of_sub (by decide)
  have h12 : stackCell (s.s - 1) ≠ stackCell (s.s - 2) := byte_sub_two s.s ▸ stackCell_ne_of_sub (by decide)
  refine ⟨?_, ?_, ?_⟩
  · rw [framePushed, Memory.get_set_other _ _ h02, Memory.get_set_other _ _ h01, Memory.get_set_same hcpu, highByte_eq_hi]
  · rw [framePushed, Memory.get_set_other _ _ h12, Memory.get_set_same (Memory.wf_set hcpu _ _), lowByte_eq_lo]
  · rw [framePushed, Memory.get_set_same (Memory.wf_set (Memory.wf_set hcpu _ _) _ _), pack_eq_statusByte]

/-- The return takes off the frame that was pushed, whatever has happened to `pc` and the flags since (60_exceptions.md R330). -/
theorem exec_rti_of_framePushed {s t : State} {pc : Word} {b : Bool} (hs : s.wf = true)
    (hmem : t.cpuMem = framePushed s pc b) (hsp : t.s = s.s - 3) :
    exec .rti t = .next { t with s := s.s, ps := { s.ps with b := b }, pc := pc, cycles := 6 } := by
  obtain ⟨hhi, hlo, hps⟩ := framePushed_get hs pc b
  have h1 : s.s - 3 + 1 = s.s - 2 := by rw [byte_sub_three, BitVec.sub_add_cancel, byte_sub_two]
  have h2 : s.s - 3 + 2 = s.s - 1 := by rw [byte_sub_three, byte_add_two, BitVec.sub_add_cancel, BitVec.sub_add_cancel]
  have h3 : s.s - 3 + 3 = s.s := BitVec.sub_add_cancel s.s 3
  rw [exec_rti_eq, hmem, hsp, h1, h2, h3, hhi, hlo, hps, unpack_pack, word_hi_lo, Bool.and_true]

theorem rti_after_takeInterrupt {k : IntType} {s : State} (hs : s.wf = true) (hm : masked k s = false) (p : Word) :
    ∃ u, exec .rti { takeInterrupt k s with pc := p } = .next u ∧ u.pc = s.pc ∧ u.ps = { s.ps with b := k == .brk } ∧
      u.s = s.s := by
  rw [takeInterrupt_taken_eq hm]
  exact ⟨_, exec_rti_of_framePushed hs rfl rfl, rfl, rfl, rfl⟩

/-- Settles O48: the second instruction of each pair reads the stack cells that the first one wrote, and moves `s` back. -/
theorem stackRoundTrips : Obligations.StackRoundTrips := by
  refine fun s hs p => ⟨pla_after_pha hs p, plp_after_php hs p, rts_after_jsr hs p, fun hi => ?brk, fun hi => ?request,
    fun hi i hmem => ?maskable, ?nmi⟩
  case brk => exact ⟨_, rfl, rti_after_takeInterrupt (s := s.setPc (s.pc + 1)) hs (masked_of_i_clear hi .brk) p⟩
  case request => exact ⟨_, rfl, rti_after_takeInterrupt hs (masked_of_i_clear hi .brk) p⟩
  case maskable =>
    simp only [List.mem_cons, List.not_mem_nil, or_false] at hmem
    obtain rfl | rfl := hmem
    · exact ⟨_, rfl, rti_after_takeInterrupt hs (masked_of_i_clear hi .irq) p⟩
    · exact ⟨_, rfl, rti_after_takeInterrupt hs (masked_of_i_clear hi .reset) p⟩
  case nmi => exact ⟨_, rfl, rti_after_takeInterrupt hs (masked_nmi s) p⟩

end Sys2Proof.Machine

/-! ### The PPU port engine and the calls (49_ppu_vt.md, 70_reset_and_hazards.md) -/

namespace Sys2Proof.Machine

open Sys2Proof.Claims

/-! #### The calls and the operations they stand for -/

/-- A mode that the well-formedness check allows has an opcode byte in the row. -/
theorem codeOf_isSome {row : List (Mode × Byte)} {modes : List Mode} {m : Mode}
    (hrow : ∀ k ∈ modes, (codeOf row k).isSome = true) (hm : modes.contains m = true) : (codeOf row m).isSome = true :=
  hrow m (List.contains_iff_mem.mp hm)

/-- A well-formed operation that is not called has an opcode byte (30_encoding.md R91). -/
theorem opcode_isSome_of_wf {i : Instr} (hwf : i.wf = true) (hcall : encodeCall i = none) : i.opcode.isSome = true := by
  cases i with
  | ora o | and o | eor o | asl o | lsr o | rol o | ror o | adc o | sbc o | cmp o | cpx o | cpy o | lda o | ldx o | ldy o =>
    exact codeOf_isSome (by decide) hwf
  | bit m | sta m | stx m | sty m | inc m | dec m => exact codeOf_isSome (by decide) hwf
  | jmp t => cases t <;> rfl
  | ppuctrlWrite | ppustatusRead | ppuscrollWriteFirst | ppuscrollWriteSecond | ppuaddrWriteFirst | ppuaddrWriteSecond
  | ppudataRead | ppudataWrite | fineYIncrement | interruptBrk | interruptIrq | interruptReset | interruptNmi => cases hcall
  | _ => rfl

/-- The second writes of the two-write ports are what their call stands for with the toggle set, all the others with it clear
(49_ppu_vt.md R293 to R296). -/
theorem decodeCall_of_encodeCall {i : Instr} {t : Turn} (h : encodeCall i = some t) : ∃ w, decodeCall t w = some i := by
  cases i with
  | ppuscrollWriteSecond | ppuaddrWriteSecond => cases h; exact ⟨true, rfl⟩
  | ppuctrlWrite | ppustatusRead | ppuscrollWriteFirst | ppuaddrWriteFirst | ppudataRead | ppudataWrite | fineYIncrement
  | interruptBrk | interruptIrq | interruptReset | interruptNmi => cases h; exact ⟨false, rfl⟩
  | _ => cases h

/-- The two operations that a call to a two-write port can stand for are made by the same call. -/
theorem encodeCall_of_decodeCall {i j : Instr} {t : Turn} {w : Bool} (h : encodeCall i = some t)
    (hj : decodeCall t w = some j) : encodeCall j = some t := by
  cases i with
  | ppuscrollWriteFirst | ppuscrollWriteSecond | ppuaddrWriteFirst | ppuaddrWriteSecond =>
    cases h
    cases w <;> cases hj <;> rfl
  | ppuctrlWrite | ppustatusRead | ppudataRead | ppudataWrite | fineYIncrement | interruptBrk | interruptIrq
  | interruptReset | interruptNmi =>
    cases h
    cases hj
    rfl
  | _ => cases h

/-- Settles O2: a well-formed operation without an opcode byte is one that is called. -/
theorem callEncodingRoundTrip : Obligations.CallEncodingRoundTrip := by
  intro i hwf hop
  cases h : encodeCall i with
  | none => exact absurd (opcode_isSome_of_wf hwf h) (Bool.eq_false_iff.mp hop)
  | some t => exact ⟨t, rfl, decodeCall_of_encodeCall h, fun _ _ => encodeCall_of_decodeCall h⟩

/-! #### The fields of an address -/

section
variable (fy : BitVec 3) (nt : BitVec 2) (cy cx : BitVec 5)

@[simp] theorem coarseX_vram : coarseX (vram fy nt cy cx) = cx := BitVec.extractLsb'_append_eq_right

@[simp] theorem coarseY_vram : coarseY (vram fy nt cy cx) = cy := by
  rw [coarseY, vram, BitVec.extractLsb'_append_eq_of_le (by decide)]
  exact BitVec.extractLsb'_append_eq_right

@[simp] theorem ntSelect_vram : ntSelect (vram fy nt cy cx) = nt := by
  rw [ntSelect, vram, BitVec.extractLsb'_append_eq_of_le (by decide), BitVec.extractLsb'_append_eq_of_le (by decide)]
  exact BitVec.extractLsb'_append_eq_right

@[simp] theorem fineY_vram : fineY (vram fy nt cy cx) = fy := by
  rw [fineY, vram, BitVec.extractLsb'_append_eq_of_le (by decide), BitVec.extractLsb'_append_eq_of_le (by decide)]
  exact BitVec.extractLsb'_append_eq_left

end

theorem vram_low (fy : BitVec 3) (nt : BitVec 2) (cy cx : BitVec 5) : (vram fy nt cy cx).extractLsb' 0 10 = cy ++ cx := by
  rw [vram, BitVec.append_assoc, BitVec.extractLsb'_cast]
  exact BitVec.extractLsb'_append_eq_right

theorem coarseY_append_coarseX (p : BitVec 15) : coarseY p ++ coarseX p = p.extractLsb' 0 10 :=
  BitVec.extractLsb'_append_extractLsb'_eq_extractLsb' rfl

theorem fineY_append_ntSelect_append_coarseY (p : BitVec 15) : fineY p ++ ntSelect p ++ coarseY p = p.extractLsb' 5 10 := by
  have htop : fineY p ++ ntSelect p = p.extractLsb' 10 5 := BitVec.extractLsb'_append_extractLsb'_eq_extractLsb' rfl
  rw [htop]
  exact BitVec.extractLsb'_append_extractLsb'_eq_extractLsb' rfl

/-! #### The rows of `$2000`, `$2002`, `$2005`, `$2006` and `$2007` -/

/-- Settles O49: a write of `$2000` under the parameter replaces the nametable field of `t`, and clearing bit 7 is a mask. -/
theorem controlWriteAndStatusRead : Obligations.ControlWriteAndStatusRead := by
  refine ⟨fun _ _ => rfl, fun _ => rfl, fun d s => ⟨⟨_, rfl, ?fields⟩, ⟨_, rfl, ?bit7, ?low7⟩⟩⟩
  case fields =>
    cases s.cfg.ppuctrlWritesTNt with
    | false => exact ⟨rfl, rfl, rfl⟩
    | true =>
      exact ⟨(vram_low _ _ _ _).trans (coarseY_append_coarseX s.ppu.t), fineY_vram _ _ _ _, ntSelect_vram _ _ _ _⟩
  case bit7 =>
    rw [BitVec.getLsbD_and]
    exact Bool.and_false _
  case low7 =>
    rw [BitVec.extractLsb'_and]
    exact BitVec.and_allOnes

theorem writeScrollFirst_fields (d : Byte) (s : State) :
    (writeScrollFirst d s).ppu.t.extractLsb' 0 5 = d.extractLsb' 3 5 ∧
    (writeScrollFirst d s).ppu.t.extractLsb' 5 10 = s.ppu.t.extractLsb' 5 10 :=
  ⟨coarseX_vram _ _ _ _,
    BitVec.extractLsb'_append_eq_left.trans (fineY_append_ntSelect_append_coarseY s.ppu.t)⟩

theorem writeScrollSecond_fields (d : Byte) (s : State) :
    (writeScrollSecond d s).ppu.t.extractLsb' 5 5 = d.extractLsb' 3 5 ∧
    (writeScrollSecond d s).ppu.t.extractLsb' 12 3 = d.extractLsb' 0 3 ∧
    (writeScrollSecond d s).ppu.t.extractLsb' 10 2 = s.ppu.t.extractLsb' 10 2 ∧
    (writeScrollSecond d s).ppu.t.extractLsb' 0 5 = s.ppu.t.extractLsb' 0 5 :=
  ⟨coarseY_vram _ _ _ _, fineY_vram _ _ _ _, ntSelect_vram _ _ _ _, coarseX_vram _ _ _ _⟩

/-- The first write of `$2006` is three parts in a row: bit 14, `t[13:8]` and `t[7:0]` (49_ppu_vt.md R295). -/
theorem writeAddrFirst_fields (d : Byte) (s : State) :
    (writeAddrFirst d s).ppu.t.extractLsb' 8 6 = d.extractLsb' 0 6 ∧ (writeAddrFirst d s).ppu.t.getLsbD 14 = false ∧
    (writeAddrFirst d s).ppu.t.extractLsb' 0 8 = s.ppu.t.extractLsb' 0 8 := by
  have ht : (writeAddrFirst d s).ppu.t = 0#1 ++ d.extractLsb' 0 6 ++ s.ppu.t.extractLsb' 0 8 := rfl
  refine ⟨?_, ?_, BitVec.extractLsb'_append_eq_right⟩
  · rw [ht, BitVec.extractLsb'_append_eq_of_le (by decide)]
    exact BitVec.extractLsb'_append_eq_right
  · rw [ht, BitVec.getLsbD_append, if_neg (by decide), BitVec.getLsbD_append, if_neg (by decide)]
    rfl

theorem writeAddrSecond_fields (d : Byte) (s : State) :
    (writeAddrSecond d s).ppu.t.extractLsb' 0 8 = d ∧
    (writeAddrSecond d s).ppu.t.extractLsb' 8 7 = s.ppu.t.extractLsb' 8 7 :=
  ⟨BitVec.extractLsb'_append_eq_right, BitVec.extractLsb'_append_eq_left⟩

/-- Settles O50: each write is its row at its value of the toggle, and writes the fields of `t` that the row lists. -/
theorem scrollAndAddressWrites : Obligations.ScrollAndAddressWrites :=
  fun d s => ⟨⟨rfl, _, rfl, writeScrollFirst_fields d s⟩, ⟨rfl, _, rfl, writeScrollSecond_fields d s⟩,
    ⟨rfl, _, rfl, writeAddrFirst_fields d s⟩, ⟨rfl, _, rfl, writeAddrSecond_fields d s⟩⟩

theorem vramAddr_eq (p : Ppu) : vramAddr p = BitVec.ofNat 16 p.v.toNat := (BitVec.ofNat_toNat 16 p.v).symm

/-- The increment is an addition on all 15 bits of `v` (49_ppu_vt.md R298). -/
theorem incrementV_eq (p : Ppu) :
    incrementV p = { p with v := BitVec.ofNat 15 (p.v.toNat + if p.ppuctrl.getLsbD 2 then 32 else 1) } := by
  rw [incrementV, vramStep, BitVec.ofNat_add, BitVec.ofNat_toNat, BitVec.setWidth_eq]
  cases p.ppuctrl.getLsbD 2 <;> rfl

theorem readData_eq (s : State) : readData s =
    (ppuRead (BitVec.ofNat 16 s.ppu.v.toNat) s, { s with ppu := { s.ppu with
      v := BitVec.ofNat 15 (s.ppu.v.toNat + if s.ppu.ppuctrl.getLsbD 2 then 32 else 1) } }) := by
  rw [readData, vramAddr_eq, incrementV_eq]
  rfl

theorem writeData_eq (d : Byte) (s : State) : writeData d s =
    { s with
      ppu := { s.ppu with v := BitVec.ofNat 15 (s.ppu.v.toNat + if s.ppu.ppuctrl.getLsbD 2 then 32 else 1) }
      ppuMem := (ppuWrite (BitVec.ofNat 16 s.ppu.v.toNat) d s).ppuMem } := by
  rw [writeData, vramAddr_eq, incrementV_eq]
  rfl

/-- Settles O51: the access is at `v` before the increment, which is modulo 32768. -/
theorem dataPortAccess : Obligations.DataPortAccess :=
  ⟨fun _ => rfl, fun _ _ => rfl, fun d s =>
    ⟨congrArg (fun r => Host.Outcome.next (callRead r)) (readData_eq s), congrArg Host.Outcome.next (writeData_eq d s)⟩⟩

/-! #### `fineYIncrement` -/

/-- The step field by field: fine Y grows modulo 8, and only from 7 does it touch coarse Y and the nametable. -/
theorem fineYStep_eq (p : BitVec 15) : fineYStep p =
    vram (fineY p + 1) (if fineY p = 7 ∧ coarseY p = 29 then ntSelect p ^^^ 2 else ntSelect p)
      (if fineY p = 7 then if coarseY p = 29 ∨ coarseY p = 31 then 0 else coarseY p + 1 else coarseY p) (coarseX p) := by
  by_cases h7 : fineY p = 7
  · have hwrap : fineY p + 1 = 0 := by rw [h7]; rfl
    rw [hwrap, fineYStep, if_neg (not_not_intro h7), if_pos h7]
    by_cases h29 : coarseY p = 29
    · rw [if_pos h29, if_pos ⟨h7, h29⟩, if_pos (.inl h29)]
    · rw [if_neg h29, if_neg (mt And.right h29)]
      by_cases h31 : coarseY p = 31
      · rw [if_pos h31, if_pos (.inr h31)]
      · rw [if_neg h31, if_neg (not_or_intro h29 h31)]
  · rw [fineYStep, if_pos h7, if_neg (mt And.left h7), if_neg h7]

theorem fineY_toNat (p : BitVec 15) : (fineY p).toNat = p.toNat / 4096 := by
  rw [fineY, extract_toNat]
  omega

theorem coarseY_toNat (p : BitVec 15) : (coarseY p).toNat = p.toNat / 32 % 32 := extract_toNat p 5 5

theorem ntSelect_getLsbD (p : BitVec 15) {k : Nat} (hk : k < 2) : (ntSelect p).getLsbD k = p.getLsbD (10 + k) := by
  rw [ntSelect, BitVec.getLsbD_extractLsb', decide_eq_true hk, Bool.true_and]

/-- Fine Y grows modulo 8. -/
theorem fineYStep_fineY (p : BitVec 15) :
    (fineY (fineYStep p)).toNat = if (fineY p).toNat < 7 then (fineY p).toNat + 1 else 0 := by
  rw [fineYStep_eq, fineY_vram]
  generalize fineY p = fy
  decide +revert

theorem fineYStep_coarseY (p : BitVec 15) : (coarseY (fineYStep p)).toNat =
    if (fineY p).toNat < 7 then (coarseY p).toNat
    else if (coarseY p).toNat = 29 ∨ (coarseY p).toNat = 31 then 0 else (coarseY p).toNat + 1 := by
  rw [fineYStep_eq, coarseY_vram]
  generalize fineY p = fy
  generalize coarseY p = cy
  decide +revert

/-- The horizontal nametable bit, bit 10 of the address, stays. -/
theorem fineYStep_ntSelect_zero (p : BitVec 15) : (ntSelect (fineYStep p)).getLsbD 0 = (ntSelect p).getLsbD 0 := by
  rw [fineYStep_eq, ntSelect_vram]
  split
  · rw [BitVec.getLsbD_xor]
    exact Bool.xor_false _
  · rfl

/-- The vertical nametable bit, bit 11 of the address, flips when coarse Y leaves row 29. -/
theorem fineYStep_ntSelect_one (p : BitVec 15) : (ntSelect (fineYStep p)).getLsbD 1 =
    ((ntSelect p).getLsbD 1 ^^ decide ((fineY p).toNat = 7 ∧ (coarseY p).toNat = 29)) := by
  have hflip : fineY p = 7 ∧ coarseY p = 29 ↔ (fineY p).toNat = 7 ∧ (coarseY p).toNat = 29 :=
    and_congr BitVec.toNat_inj.symm BitVec.toNat_inj.symm
  rw [fineYStep_eq, ntSelect_vram, ← decide_eq_decide.mpr hflip]
  split
  next h =>
    rw [BitVec.getLsbD_xor, decide_eq_true h]
    rfl
  next h => rw [decide_eq_false h, Bool.xor_false]

/-- Settles O52: `fineYStep_eq`, read field by field. -/
theorem scrollIncrement : Obligations.ScrollIncrement := by
  refine ⟨fun _ => rfl, fun s => ⟨fineYStep s.ppu.v, rfl, ?coarseX, ?horizontal, ?fineY, ?coarseY, ?vertical⟩⟩
  case coarseX =>
    rw [fineYStep_eq]
    exact coarseX_vram _ _ _ _
  case horizontal =>
    have h := fineYStep_ntSelect_zero s.ppu.v
    rwa [ntSelect_getLsbD _ (by decide), ntSelect_getLsbD _ (by decide)] at h
  case fineY =>
    rw [← fineY_toNat, ← fineY_toNat]
    exact fineYStep_fineY s.ppu.v
  case coarseY =>
    rw [← coarseY_toNat, ← coarseY_toNat, ← fineY_toNat]
    exact fineYStep_coarseY s.ppu.v
  case vertical =>
    have h := fineYStep_ntSelect_one s.ppu.v
    rwa [ntSelect_getLsbD _ (by decide), ntSelect_getLsbD _ (by decide), fineY_toNat, coarseY_toNat] at h

/-! #### The port accesses of the CPU -/

/-- A write that has a row does what the row does: the toggle that chooses the row is the one the port engine reads
(49_ppu_vt.md R290, R297). -/
theorem exec_of_portWrite_row {off : BitVec 13} {d : Byte} {s : State} {i : Instr}
    (h : decodeCall (.portWrite off d) s.ppu.w = some i) : exec i s = .next (portWrite (portOf off.toNat) d s) := by
  have hr : off.toNat % 8 < 8 := Nat.mod_lt _ (by decide)
  simp only [decodeCall] at h
  unfold portOf
  generalize off.toNat % 8 = r at h hr ⊢
  match r, h, hr with
  | 0, h, _ | 7, h, _ => cases h; rfl
  | 5, h, _ | 6, h, _ =>
    cases h
    simp only [portWrite]
    split <;> rfl
  | 1, h, _ | 2, h, _ | 3, h, _ | 4, h, _ => cases h

/-- A read that has a row does what the row does, and gives the row's byte. -/
theorem exec_of_portRead_row {off : BitVec 13} {s : State} {i : Instr}
    (h : decodeCall (.portRead off) s.ppu.w = some i) : exec i s = .next (callRead (portRead (portOf off.toNat) s)) := by
  have hr : off.toNat % 8 < 8 := Nat.mod_lt _ (by decide)
  simp only [decodeCall] at h
  unfold portOf
  generalize off.toNat % 8 = r at h hr ⊢
  match r, h, hr with
  | 2, h, _ | 7, h, _ => cases h; rfl
  | 0, h, _ | 1, h, _ | 3, h, _ | 4, h, _ | 5, h, _ | 6, h, _ => cases h

/-- The turn of a call that has no row. -/
theorem step_of_noRow {t : Turn} {s : State} (ts : List Turn) (ht : t ≠ .cpu) (h : decodeCall t s.ppu.w = none) :
    step { s with turns := t :: ts } = .next (callNoRow t { s with turns := ts }) := by
  rw [step_of_call rfl ht]
  exact runCall_of_noRow (s := { s with turns := ts }) h

/-- The place of OAMDMA (10_state.md R38). -/
theorem regionOf_oamDma : regionOf 0x4014 = .oamDma := rfl

/-- Settles O54: the address leads to the port `off` selects, and each access of that port has a row or has none. -/
theorem cpuAccessIsThePortOperation : Obligations.CpuAccessIsThePortOperation := by
  refine ⟨fun off d s => ?access, fun d s => ⟨?dmaWrite, ?dmaRead⟩,
    fun off d s ts => ⟨fun h => ?callWrite, fun h => ?callRead⟩⟩
  case access =>
    have hport := regionOf_port off
    dsimp only
    rw [memWrite_port hport, memRead_port hport]
    exact ⟨fun _ h => exec_of_portWrite_row h, fun h => portWrite_of_noRow h s, fun _ h => exec_of_portRead_row h,
      fun h => portRead_of_noRow h s⟩
  case dmaWrite => rw [memWrite, regionOf_oamDma]
  case dmaRead =>
    rw [memRead, regionOf_oamDma]
    rfl
  case callWrite => rw [step_of_noRow (t := .portWrite off d) ts nofun h, callNoRow, portWrite_of_noRow h]
  case callRead =>
    rw [step_of_noRow (t := .portRead off) ts nofun h, callNoRow, portRead_of_noRow h]
    rfl

/-! #### Power-on, reset and the vblank flag -/

/-- The byte that keeps bit 7 of `p` and has bits 6:0 of `q` (70_reset_and_hazards.md R352). -/
theorem keepBit7_bits (p q : Byte) :
    (p.extractLsb' 7 1 ++ q.extractLsb' 0 7 : Byte).getLsbD 7 = p.getLsbD 7 ∧
    (p.extractLsb' 7 1 ++ q.extractLsb' 0 7 : Byte).extractLsb' 0 7 = q.extractLsb' 0 7 := by
  refine ⟨?_, BitVec.extractLsb'_append_eq_right⟩
  rw [BitVec.getLsbD_append, if_neg (by decide)]
  exact BitVec.getLsbD_extractLsb' 7 1 p 0

/-- Setting bit 7 leaves bits 6:0 (49_ppu_vt.md R301). -/
theorem setBit7_bits (p : Byte) :
    (p ||| 0x80).getLsbD 7 = true ∧ (p ||| 0x80).extractLsb' 0 7 = p.extractLsb' 0 7 := by
  rw [BitVec.getLsbD_or, BitVec.extractLsb'_or]
  exact ⟨Bool.or_true _, BitVec.or_zero⟩

/-- Settles O55: none of the four calls has a row, and of `ppustatus` only the bits that the rules name are written. -/
theorem powerOnResetAndVblank : Obligations.PowerOnResetAndVblank := by
  intro s ts
  obtain ⟨hkept, hfree⟩ := keepBit7_bits s.ppu.ppustatus (Config.freeByte s.drawn)
  obtain ⟨hset, hlow⟩ := setBit7_bits s.ppu.ppustatus
  exact ⟨step_of_noRow ts nofun rfl, ⟨_, hkept, hfree, step_of_noRow ts nofun rfl⟩,
    ⟨_, hset, hlow, step_of_noRow ts nofun rfl⟩, fun _ => step_of_noRow ts nofun rfl⟩

theorem memRead_ppustatus (s : State) : memRead 0x2002 s = readStatus s := memRead_port (p := .ppustatus) rfl s

/-- Settles O56: the fields are the launch's or `Ppu.powerOn`'s, bit 5 is that of a packed status, and the first read of `$2002`
is `readStatus`. -/
theorem powerOnValues : Obligations.PowerOnValues := by
  intro init cpuMem ppuMem cfg s
  have hclear : (0xA0 : Byte) &&& 0x7F = 0x20 := by decide
  refine ⟨rfl, rfl, rfl, rfl, rfl, rfl, pack_getLsbD s.ps s.ps.b 5, rfl, rfl, rfl, ?_⟩
  rw [memRead_ppustatus]
  exact ⟨rfl, hclear⟩

end Sys2Proof.Machine
